-- ==== Sys2Proof/Word.lean ====
section
/-! DEFINITION. The words of CAJA_CORE: the 4-bit KeyIdentity code and the decimal digit (30_encoding.md R70, R76). -/

namespace Sys2Proof

/-- The 4-bit KeyIdentity code `key[3:0]` that `prev`, `cand` and `evt` hold (30_encoding.md R70). The codes 10 to 14
are reserved; the type can write them down because the spec gives a dispatch of one an outcome of its own
(60_exceptions.md R162). DESIGN CHOICE (safe), log entry 5. -/
abbrev KeyCode := BitVec 4

/-- `None`, "no key": code 15 (30_encoding.md R70). -/
abbrev noKey : KeyCode := 0b1111#4

/-- One snapshot digit, a value 0 to 9 (30_encoding.md R76); the codes 10 to 15 are impossible (10_state.md R36) and
the type leaves them out. DEDUCED (safe), log entry 6. -/
abbrev Digit := Fin 10

end Sys2Proof
end

