-- ==== Sys2Proof/Config.lean ====
section
/-! DEFINITION. The parameter record `Cfg` (00_scope.md R8) and the free values that stand for the environment's draws. -/

namespace Sys2Proof

/-- `PCT_ROUND` (00_scope.md R8, 90_conflicts.md C3). -/
inductive PctRound where
  /-- rounded to nearest, an exact half up: the default -/
  | nearestHalfUp
  /-- the fractional part dropped: the legacy behaviour -/
  | truncate
deriving DecidableEq, Repr

/-- `SEG_LINES`, 7 or 8 (00_scope.md R8, 90_conflicts.md C6). -/
inductive SegLines where
  | seven
  | eight
deriving DecidableEq, Repr

/-- The record `Cfg` of 00_scope.md R8: what the source leaves open. Its constraints are `Cfg.wellFormed`. -/
structure Cfg where
  /-- `T_STAB`: ticks a row line stays asserted, its sampling tick included -/
  tStab : Nat
  /-- `T_SETTLE`: ticks between the first scan and the reconfirming scan -/
  tSettle : Nat
  /-- `T_ON`: ticks a digit stays lit -/
  tOn : Nat
  /-- `T_BLANK`: dark ticks after each digit -/
  tBlank : Nat
  /-- `CNT_W`: width in bits of each `counts[k]` -/
  cntW : Nat
  /-- `PCT_ROUND` -/
  pctRound : PctRound
  /-- `SEG_LINES` -/
  segLines : SegLines
  /-- `SEG_TABLE`: ten 7-bit patterns, indexed by the digit -/
  segTable : Vector (BitVec 7) 10
deriving DecidableEq, Repr

/-- `TOTAL_W`, fixed to `CNT_W + 3` (00_scope.md R8). -/
def Cfg.totalW (c : Cfg) : Nat := c.cntW + 3

/-- The default `SEG_TABLE` of 20_memory.md R53. PRESUMED (unsafe): the spec takes the font from general knowledge,
log entry 11. -/
def Cfg.defaultSegTable : Vector (BitVec 7) 10 :=
  #v[0x3F, 0x06, 0x5B, 0x4F, 0x66, 0x6D, 0x7D, 0x07, 0x7F, 0x6F]

/-- `CFG_TEST`, the last column of the table of 00_scope.md R8. -/
def Cfg.test : Cfg where
  tStab := 2
  tSettle := 4
  tOn := 3
  tBlank := 1
  cntW := 16
  pctRound := .nearestHalfUp
  segLines := .seven
  segTable := Cfg.defaultSegTable

/-- Free value: `col_n` at the `n`-th clock edge where the state lists no input for it. The environment "supplies one
4-bit value `col_n` and one bit `rst`, under no law at all" (00_scope.md R10, 92_eei_decisions.md D20). DESIGN CHOICE
(safe), log entry 2. -/
opaque Config.freeCol : Nat → BitVec 4

/-- Free value: `rst` at the `n`-th clock edge where the state lists no input for it (00_scope.md R10). DESIGN CHOICE
(safe), log entry 2. -/
opaque Config.freeRst : Nat → Bool

/-- Free value: `row_n` during the tick of a faulted machine that ends at the `n`-th clock edge. "What a physical
implementation does [...] is unspecified; the model must not pick one" (93_implementation_defined.md U1). DESIGN CHOICE
(safe), log entry 18. -/
opaque Config.faultedRowN : Nat → BitVec 3

/-- Free value: `dig_sel` of a faulted machine (93_implementation_defined.md U1). DESIGN CHOICE (safe), log entry 18. -/
opaque Config.faultedDigSel : Nat → BitVec 3

/-- Free value: `seg[6:0]` of a faulted machine (93_implementation_defined.md U1). DESIGN CHOICE (safe), log entry 18. -/
opaque Config.faultedSeg : Nat → BitVec 7

end Sys2Proof
end

