-- ==== Sys2Proof/Syntax.lean ====
section
/-! DEFINITION. The four dispatch operations, one constructor per row of spec/opcode_table.json (30_encoding.md R79). -/

namespace Sys2Proof

/-- The operation that the accepted KeyIdentity selects in the DISPATCH tick (00_scope.md R4, 30_encoding.md R79). -/
inductive Instr where
  /-- `COUNT k`, code `0kkk` (42_counter_dispatch.md R111). -/
  | count (k : Fin 8)
  /-- `RESET`, code `1000` (42_counter_dispatch.md R112). -/
  | reset
  /-- `TOGGLE`, code `1001` (42_counter_dispatch.md R113). -/
  | toggle
  /-- `NONE`, code `1111` (42_counter_dispatch.md R114). -/
  | none
deriving DecidableEq, Repr

end Sys2Proof
end

