-- ==== Sys2Proof/WellFormed.lean ====
section
/-! DEFINITION. What makes an instruction and a configuration well formed. -/

namespace Sys2Proof

/-- Every term of `Instr` is well formed: the one operand is a 3-bit field and `Fin 8` admits exactly its values
(30_encoding.md R70, R85(a)). -/
def Instr.wellFormed : Instr → Bool
  | .count _ => true
  | .reset => true
  | .toggle => true
  | .none => true

/-- The constraints of 00_scope.md R8. "The model takes a `Cfg` together with a proof, or a check, of the constraints"
(93_implementation_defined.md U8). That `SEG_LINES` is 7 or 8 and that a pattern has 7 bits the types say. -/
def Cfg.wellFormed (c : Cfg) : Bool :=
  decide (1 ≤ c.tStab) && decide (1 ≤ c.tSettle) && decide (1 ≤ c.tOn) && decide (1 ≤ c.tBlank) &&
    decide (10 ≤ c.cntW)

end Sys2Proof
end

