-- ==== Sys2Proof/Decode.lean ====
section
/-! DEFINITION. The operation map from the 4-bit code in `evt` to the operations, and back (30_encoding.md R70, R79). -/

namespace Sys2Proof

/-- What the operation map answers for a code. -/
inductive Decoded where
  /-- the operation the code selects -/
  | instr (i : Instr)
  /-- the reserved codes 10 to 14 (30_encoding.md R80), rejected by name -/
  | reservedKeyCode (code : KeyCode)
deriving DecidableEq, Repr

/-- The operand of `COUNT k`: `k = evt[2:0]` (30_encoding.md R85(a)). -/
def countOperand (w : KeyCode) : Fin 8 := (w.extractLsb' 0 3).toFin

/-- The operation map of 30_encoding.md R79, mask and match in the table's order. -/
def decode (w : KeyCode) : Decoded :=
  if w &&& 0b1000#4 = 0b0000#4 then .instr (.count (countOperand w))
  else if w &&& 0b1111#4 = 0b1000#4 then .instr .reset
  else if w &&& 0b1111#4 = 0b1001#4 then .instr .toggle
  else if w &&& 0b1111#4 = 0b1111#4 then .instr .none
  else .reservedKeyCode w

/-- The code of an operation (30_encoding.md R70, R79). -/
def encode : Instr → KeyCode
  | .count k => 0b0#1 ++ BitVec.ofNat 3 k.val
  | .reset => 0b1000#4
  | .toggle => 0b1001#4
  | .none => 0b1111#4

/-- The `mask` of the operation's row in the operation map (30_encoding.md R79). -/
def Instr.mask : Instr → KeyCode
  | .count _ => 0b1000#4
  | .reset => 0b1111#4
  | .toggle => 0b1111#4
  | .none => 0b1111#4

/-- The `match` of the operation's row in the operation map (30_encoding.md R79). -/
def Instr.matchBits : Instr → KeyCode
  | .count _ => 0b0000#4
  | .reset => 0b1000#4
  | .toggle => 0b1001#4
  | .none => 0b1111#4

/-- The key code of a table word: the register `evt` has four bits, so a word padded to whole bytes gives its low four.
DESIGN CHOICE (safe), log entry 10. -/
def tableWordCode (w : Nat) : KeyCode := BitVec.ofNat 4 w

/-- The instruction the decoder reads from a table word, none where it rejects the code. -/
def decodeTableWord (_nbits w : Nat) : Option Instr :=
  match decode (tableWordCode w) with
  | .instr i => some i
  | .reservedKeyCode _ => none

end Sys2Proof
end

