-- ==== Sys2Proof/Machine/State.lean ====
section
/-! DEFINITION. The state of CAJA_CORE (10_state.md R20), its reset (10_state.md R33), its faults and refusals. -/

namespace Sys2Proof.Machine

/-- `mode`, the block's one flag (10_state.md R23). -/
inductive Mode where
  | rawCount
  | percentage
deriving DecidableEq, Repr

/-- The sequencer's phase (10_state.md R30); the spec fixes no binary code for it (30_encoding.md R78). -/
inductive Phase where
  /-- `SCAN_A`: the first scan -/
  | scanA
  /-- `SETTLE`: the debounce settle delay -/
  | settle
  /-- `SCAN_B`: the reconfirming scan -/
  | scanB
  /-- `DISPATCH` -/
  | dispatch
  /-- `SHOW`: a digit lit -/
  | showDigit
  /-- `BLANK`: segments off after a digit -/
  | blank
deriving DecidableEq, Repr

/-- What the environment presents at one clock edge: `col_n` and `rst` (00_scope.md R10, 10_state.md R32). -/
structure Input where
  col : BitVec 4
  rst : Bool
deriving DecidableEq, Repr

/-- The input of an edge with no key seen and no reset: `col_n = 0b1111`, `rst = 0`. -/
def Input.idle : Input := ⟨0b1111#4, false⟩

/-- The ten items of 10_state.md R20, then three fields of the model's own: the configuration and the environment's
coming inputs, which 10_state.md R34 calls parameters of the step (log entries 1 and 2). -/
structure State where
  /-- `counts[0..7]` (10_state.md R21); below `2^CNT_W` in every reachable state. DEDUCED (safe), log entry 7. -/
  counts : Vector Nat 8
  /-- `total` (10_state.md R22) -/
  total : Nat
  /-- `mode` (10_state.md R23) -/
  mode : Mode
  /-- `snap[0..2]`, hundreds, tens, units (10_state.md R24) -/
  snap : Vector Digit 3
  /-- `prev`, the previously accepted key (10_state.md R25) -/
  prev : KeyCode
  /-- `cand`, the first scan's result (10_state.md R26) -/
  cand : KeyCode
  /-- `evt`, the accepted event: the instruction word (10_state.md R27) -/
  evt : KeyCode
  /-- `phase` of the sequencer (10_state.md R30) -/
  phase : Phase
  /-- `idx` of the sequencer (10_state.md R30) -/
  idx : Fin 3
  /-- `tmr` of the sequencer: further ticks in this (phase, idx) after the present one (10_state.md R30) -/
  tmr : Nat
  /-- MODEL's field: the record `Cfg`; no step writes it. DESIGN CHOICE, log entry 1. -/
  cfg : Cfg
  /-- MODEL's field: the inputs at the coming edges, the next edge first. DESIGN CHOICE (safe), log entry 2. -/
  inputs : List Input
  /-- MODEL's field: edges passed, the index of the free inputs. DESIGN CHOICE (safe), log entry 2. -/
  edges : Nat
deriving DecidableEq, Repr

/-- Why a tick has no next state. -/
inductive Fault where
  /-- `CounterOverflow(k)` (60_exceptions.md R161): raised by `COUNT k` when the increment does not fit `CNT_W` bits.
  Safe: what silicon does there is unspecified (93_implementation_defined.md U1). -/
  | counterOverflow (k : Fin 8)
  /-- `InvalidKeyCode` (60_exceptions.md R162): raised by a DISPATCH tick whose `evt` is 10 to 14. Safe: unreachable
  from reset (10_state.md R28). -/
  | invalidKeyCode
deriving DecidableEq, Repr

/-- Why the model gives a tick no meaning. -/
inductive Refusal where
  /-- An instruction that has no meaning yet: raised by no arm of `exec` now. Safe: nothing is claimed of it. -/
  | notModelled (mnemonic : String)
  /-- The configuration breaks a constraint of 00_scope.md R8 (93_implementation_defined.md U8, treatment `refuse`):
  raised by every tick of such a state. Safe: nothing is claimed of such a block. -/
  | configOutsideConstraints
deriving DecidableEq, Repr

/-- `RESET_STATE(Cfg)` (10_state.md R33, 44_sequencer.md R143), before the given coming inputs. -/
def State.resetWith (c : Cfg) (inputs : List Input) (edges : Nat) : State where
  counts := Vector.replicate 8 0
  total := 0
  mode := .rawCount
  snap := Vector.replicate 3 0
  prev := noKey
  cand := noKey
  evt := noKey
  phase := .scanA
  idx := 0
  tmr := c.tStab - 1
  cfg := c
  inputs := inputs
  edges := edges

/-- The machine right after reset: 10_state.md R33 for the spec's `CFG_TEST`, nothing listed for the environment.
DESIGN CHOICE (unsafe for a claim that rests on the configuration), log entries 1 and 3. -/
def State.reset : State := State.resetWith Cfg.test [] 0

end Sys2Proof.Machine
end

