-- ==== Sys2Proof/Machine/Ops.lean ====
section
/-! DEFINITION. The named operations over the registers, the pins and the table (00_scope.md R15). The block has no memory
(20_memory.md R50) and no exception entry or return (60_exceptions.md R165); what leads out of any state is `rst`
(44_sequencer.md R143), the operation `State.takeReset`. -/

namespace Sys2Proof.Machine

/-- What the environment presents at the edge that ends the `n`-th coming tick (0 is the current one): the listed input,
else a free value (00_scope.md R10). DESIGN CHOICE (safe), log entry 2. -/
def State.inputAt (s : State) (n : Nat) : Input :=
  match s.inputs[n]? with
  | some i => i
  | none => ⟨Config.freeCol (s.edges + n), Config.freeRst (s.edges + n)⟩

/-- `PinRead(col_n)` at the edge that ends the current tick (20_memory.md R54). -/
def State.pinRead (s : State) : BitVec 4 := (s.inputAt 0).col

/-- `rst` at the edge that ends the current tick (10_state.md R32). -/
def State.rstPin (s : State) : Bool := (s.inputAt 0).rst

/-- The environment past `n` clock edges; no register of the block changes. -/
def State.afterEdges (s : State) (n : Nat) : State :=
  { s with inputs := s.inputs.drop n, edges := s.edges + n }

/-- `seq <- (P, i, t)` (00_scope.md R15). -/
def State.setSeq (s : State) (p : Phase) (i : Fin 3) (t : Nat) : State :=
  { s with phase := p, idx := i, tmr := t }

/-- `tmr <- tmr - 1`, the whole of a waiting tick (44_sequencer.md R145). -/
def State.countDown (s : State) : State := { s with tmr := s.tmr - 1 }

/-- `prev <- k` (10_state.md R25). -/
def State.setPrev (s : State) (k : KeyCode) : State := { s with prev := k }

/-- `cand <- k` (10_state.md R26). -/
def State.setCand (s : State) (k : KeyCode) : State := { s with cand := k }

/-- `evt <- k` (10_state.md R27). -/
def State.setEvt (s : State) (k : KeyCode) : State := { s with evt := k }

/-- `RomRead(d) = SEG_TABLE[d]` (20_memory.md R57). -/
def romRead (c : Cfg) (d : Digit) : BitVec 7 := c.segTable[d]

/-- The next state of a tick whose ending edge has `rst = 1`: the reset state, whatever was held (44_sequencer.md R143).
The configuration stays and the environment goes on. -/
def State.takeReset (s : State) : State := State.resetWith s.cfg (s.inputs.drop 1) (s.edges + 1)

/-- The (phase, idx, tmr) at which a loop iteration starts (44_sequencer.md R140, R150). -/
def State.atLoopStart (s : State) : Bool :=
  decide (s.phase = .scanA) && decide (s.idx = 0) && decide (s.tmr = s.cfg.tStab - 1)

/-- A key code placed where the next DISPATCH tick fetches it: `evt`, with the sequencer at DISPATCH and no reset at the
coming edge. DESIGN CHOICE, log entry 9. -/
def State.placeKeyCode (s : State) (w : KeyCode) : State :=
  { s with evt := w, phase := .dispatch, idx := 0, tmr := 0, inputs := Input.idle :: s.inputs.drop 1 }

end Sys2Proof.Machine
end

