-- ==== Sys2Proof/Machine/Flags.lean ====
section
/-! DEFINITION. The one flag of the block, `mode` (10_state.md R23, 30_encoding.md R77). -/

namespace Sys2Proof.Machine

/-- The code of `mode`: 0 = RawCount, 1 = Percentage (30_encoding.md R77). -/
def Mode.code : Mode → BitVec 1
  | .rawCount => 0
  | .percentage => 1

/-- `~mode` (42_counter_dispatch.md R113). -/
def Mode.flip : Mode → Mode
  | .rawCount => .percentage
  | .percentage => .rawCount

/-- `mode <- ~mode`, the only write of the flag (10_state.md R23). -/
def State.flipMode (s : State) : State := { s with mode := s.mode.flip }

end Sys2Proof.Machine
end

