-- ==== Sys2Proof/Machine/Operands.lean ====
section
/-! DEFINITION. Operand assembly of the scanner (20_memory.md R51, 30_encoding.md R71, R73, R85(b)). -/

namespace Sys2Proof.Machine

/-- `lowbit(a)`: for a non-zero bus, the index of its lowest set bit (00_scope.md R15). -/
def lowbit (a : BitVec 4) : Fin 4 :=
  if a[0] then 0 else if a[1] then 1 else if a[2] then 2 else 3

/-- `vmask(r)`: the populated columns of row `r`; positions 10 and 11 are masked (30_encoding.md R73). -/
def vmask (r : Fin 3) : BitVec 4 := if r = 2 then 0b0011#4 else 0b1111#4

/-- The key index at row `r`, column `c`: `4r + c`, as bits `r[1:0], c[1:0]` (30_encoding.md R71). -/
def keyIndex (r : Fin 3) (c : Fin 4) : KeyCode := BitVec.ofNat 4 (4 * r.val + c.val)

/-- `rowdecode(r, s)`: the KeyIdentity of a sample `s` of `col_n` taken while row `r` is driven (30_encoding.md R73). -/
def rowdecode (r : Fin 3) (s : BitVec 4) : KeyCode :=
  let a := ~~~s &&& vmask r
  if a = 0#4 then noKey else keyIndex r (lowbit a)

/-- `row_n` while row `r` is driven: `~(1 << r) & 0b111` (30_encoding.md R72). -/
def rowPattern (r : Fin 3) : BitVec 3 := ~~~(1#3 <<< r.val) &&& 0b111#3

/-- `dig_sel` while position `p` is shown: `1 << p` (30_encoding.md R74). -/
def digitPattern (p : Fin 3) : BitVec 3 := 1#3 <<< p.val

end Sys2Proof.Machine
end

