-- ==== Sys2Proof/Machine/CounterState.lean ====
section
/-! DEFINITION. CounterState: the snapshot arithmetic and the meanings of COUNT, RESET, TOGGLE and NONE
(42_counter_dispatch.md). -/

namespace Sys2Proof.Machine

/-- `pct(c, t)`, for `t > 0` (42_counter_dispatch.md R117): exact integer arithmetic, `/` the floor quotient. -/
def pct (r : PctRound) (c t : Nat) : Nat :=
  match r with
  | .nearestHalfUp => (200 * c + t) / (2 * t)
  | .truncate => (100 * c) / t

/-- `value(m, c, t)`, the value to show (42_counter_dispatch.md R116). -/
def value (r : PctRound) (m : Mode) (c t : Nat) : Nat :=
  match m with
  | .rawCount => c
  | .percentage => if t = 0 then 0 else pct r c t

/-- `digits(v)`: clamp at 999, then hundreds, tens, units (42_counter_dispatch.md R118). -/
def digits (v : Nat) : Vector Digit 3 :=
  let w := min v 999
  #v[⟨w / 100, by omega⟩, ⟨(w / 10) % 10, by omega⟩, ⟨w % 10, by omega⟩]

/-- `counts[k] <- counts[k] + 1; total <- total + 1` (42_counter_dispatch.md R111, R119). -/
def State.countKey (s : State) (k : Fin 8) : State :=
  { s with counts := s.counts.set k (s.counts[k] + 1), total := s.total + 1 }

/-- `snap <- digits(value(mode, counts[k], total))`, on the registers as already updated (42_counter_dispatch.md R111,
R113: "recompute DisplaySnapshot"). -/
def State.recompute (s : State) (k : Fin 8) : State :=
  { s with snap := digits (value s.cfg.pctRound s.mode s.counts[k] s.total) }

/-- Every count and `total` to 0, the snapshot to 0, 0, 0 (42_counter_dispatch.md R112). -/
def State.clearCounters (s : State) : State :=
  { s with counts := Vector.replicate 8 0, total := 0, snap := Vector.replicate 3 0 }

/-- The increment of `counts[k]` does not fit `CNT_W` bits (10_state.md R21, 42_counter_dispatch.md R119): on a register
of `CNT_W` bits, exactly `counts[k] = 2^CNT_W - 1`. DEDUCED (safe), log entry 7. -/
def State.countFull (s : State) (k : Fin 8) : Bool := decide (2 ^ s.cfg.cntW ≤ s.counts[k] + 1)

/-- `seq <- (SHOW, 0, T_ON - 1)`, at the edge that ends every DISPATCH tick (42_counter_dispatch.md R110). -/
def State.endDispatch (s : State) : State := s.setSeq .showDigit 0 (s.cfg.tOn - 1)

/-- `COUNT k` (42_counter_dispatch.md R111, R119; 60_exceptions.md R161). -/
def execCount (k : Fin 8) (s : State) : Host.Outcome State Fault Refusal :=
  if s.countFull k then .fault (.counterOverflow k)
  else .next ((s.countKey k).recompute k).endDispatch

/-- `RESET` (42_counter_dispatch.md R112); `mode` and `prev` keep their values. -/
def execReset (s : State) : Host.Outcome State Fault Refusal :=
  .next s.clearCounters.endDispatch

/-- `TOGGLE` (42_counter_dispatch.md R113): the snapshot is key 0's under the new mode. -/
def execToggle (s : State) : Host.Outcome State Fault Refusal :=
  .next (s.flipMode.recompute 0).endDispatch

/-- `NONE` (42_counter_dispatch.md R114): only the sequencer advances. -/
def execNone (s : State) : Host.Outcome State Fault Refusal :=
  .next s.endDispatch

end Sys2Proof.Machine
end

