-- ==== Sys2Proof/Machine/Dispatch.lean ====
section
/-! DEFINITION. The dispatcher: which meaning each operation has (30_encoding.md R79). -/

namespace Sys2Proof.Machine

def exec (i : Instr) (s : State) : Host.Outcome State Fault Refusal :=
  match i with
  | .count k => Sys2Proof.Machine.execCount k s
  | .reset => Sys2Proof.Machine.execReset s
  | .toggle => Sys2Proof.Machine.execToggle s
  | .none => Sys2Proof.Machine.execNone s

end Sys2Proof.Machine
end

