-- ==== Sys2Proof/Machine/Display.lean ====
section
/-! DEFINITION. DisplayMultiplexer: the ticks of a refresh pass (43_display_multiplexer.md R131, R132). -/

namespace Sys2Proof.Machine

/-- A `SHOW` tick (43_display_multiplexer.md R131). -/
def State.showTick (s : State) : State :=
  if 0 < s.tmr then s.countDown else s.setSeq .blank s.idx (s.cfg.tBlank - 1)

/-- A `BLANK` tick (43_display_multiplexer.md R132): after position 2 the next loop iteration begins. -/
def State.blankTick (s : State) : State :=
  if 0 < s.tmr then s.countDown
  else if s.idx < 2 then s.setSeq .showDigit (s.idx + 1) (s.cfg.tOn - 1)
  else s.setSeq .scanA 0 (s.cfg.tStab - 1)

end Sys2Proof.Machine
end

