-- ==== Sys2Proof/Machine/Debouncer.lean ====
section
/-! DEFINITION. Debouncer: what the end of each scan does, and the settle delay (41_debouncer.md R101 to R105). -/

namespace Sys2Proof.Machine

/-- `seq <- (DISPATCH, 0, 0)`: where every run of the Debouncer ends (44_sequencer.md R144). -/
def State.toDispatch (s : State) : State := s.setSeq .dispatch 0 0

/-- The first scan ends with result `k` (41_debouncer.md R101, R102, R103). -/
def State.firstScanEnds (s : State) (k : KeyCode) : State :=
  if k = noKey then ((s.setPrev noKey).setEvt noKey).toDispatch
  else if k = s.prev then (s.setEvt noKey).toDispatch
  else (s.setCand k).setSeq .settle 0 (s.cfg.tSettle - 1)

/-- The reconfirming scan ends with result `k` (41_debouncer.md R104): a mismatch leaves `prev` as it was. -/
def State.reconfirmEnds (s : State) (k : KeyCode) : State :=
  if k = s.cand then ((s.setPrev s.cand).setEvt s.cand).toDispatch
  else (s.setEvt noKey).toDispatch

/-- A `SETTLE` tick (41_debouncer.md R105). -/
def State.settleTick (s : State) : State :=
  if 0 < s.tmr then s.countDown else s.setSeq .scanB 0 (s.cfg.tStab - 1)

end Sys2Proof.Machine
end

