-- ==== Sys2Proof/Machine/Scanner.lean ====
section
/-! DEFINITION. InputScanner: the ticks of a sweep and the sweep as a function of its samples (40_input_scanner.md). -/

namespace Sys2Proof.Machine

/-- A sweep takes one more row: the sample decodes to `None` and rows are left (40_input_scanner.md R92). -/
def State.rowMissed (s : State) (c : BitVec 4) : Bool :=
  decide (rowdecode s.idx c = noKey) && decide (s.idx < 2)

/-- `seq <- (phase, idx + 1, T_STAB - 1)`: the next row, with no idle gap (40_input_scanner.md R92). -/
def State.nextRow (s : State) : State := s.setSeq s.phase (s.idx + 1) (s.cfg.tStab - 1)

/-- A tick of `SCAN_A` whose ending edge has `col_n = c` (40_input_scanner.md R91, R92; 41_debouncer.md R101 to R103). -/
def State.scanATick (s : State) (c : BitVec 4) : State :=
  if 0 < s.tmr then s.countDown
  else if s.rowMissed c then s.nextRow
  else s.firstScanEnds (rowdecode s.idx c)

/-- A tick of `SCAN_B` whose ending edge has `col_n = c` (40_input_scanner.md R91, R92; 41_debouncer.md R104). -/
def State.scanBTick (s : State) (c : BitVec 4) : State :=
  if 0 < s.tmr then s.countDown
  else if s.rowMissed c then s.nextRow
  else s.reconfirmEnds (rowdecode s.idx c)

/-- The values of `col_n` at the sampling edges of rows 0, 1 and 2 of one sweep (40_input_scanner.md R94). -/
structure Samples where
  row0 : BitVec 4
  row1 : BitVec 4
  row2 : BitVec 4
deriving DecidableEq, Repr

/-- The result of a sweep as a function of its samples (40_input_scanner.md R94). -/
def sweep (a : Samples) : KeyCode :=
  if rowdecode 0 a.row0 ≠ noKey then rowdecode 0 a.row0
  else if rowdecode 1 a.row1 ≠ noKey then rowdecode 1 a.row1
  else rowdecode 2 a.row2

/-- How many rows a sweep drives: it stops at the first hit (40_input_scanner.md R94). -/
def sweepRows (a : Samples) : Nat :=
  if rowdecode 0 a.row0 ≠ noKey then 1
  else if rowdecode 1 a.row1 ≠ noKey then 2
  else 3

end Sys2Proof.Machine
end

