-- ==== Sys2Proof/Machine/Tick.lean ====
section
/-! DEFINITION. The tick function (44_sequencer.md R142). -/

namespace Sys2Proof.Machine

/-- The `DISPATCH` tick: fetch `evt`, decode it, run the operation (42_counter_dispatch.md R110); a reserved code is the
fault InvalidKeyCode (42_counter_dispatch.md R115). -/
def State.dispatchTick (s : State) : Host.Outcome State Fault Refusal :=
  match decode s.evt with
  | .instr i => exec i s
  | .reservedKeyCode _ => .fault .invalidKeyCode

/-- One tick with `rst = 0` and `col_n = c` at its ending edge: the arms of 44_sequencer.md R142. -/
def State.runTick (s : State) (c : BitVec 4) : Host.Outcome State Fault Refusal :=
  match s.phase with
  | .scanA => .next (s.scanATick c)
  | .settle => .next s.settleTick
  | .scanB => .next (s.scanBTick c)
  | .dispatch => s.dispatchTick
  | .showDigit => .next s.showTick
  | .blank => .next s.blankTick

/-- `tick(Cfg, s, rst, c)` (44_sequencer.md R142), with `rst` and `c` taken from the environment at the edge that ends
the tick. `rst` has priority over every arm (R143). A configuration outside its constraints is refused
(93_implementation_defined.md U8; log entry 4). -/
def State.tick (s : State) : Host.Outcome State Fault Refusal :=
  if s.cfg.wellFormed then
    if s.rstPin then .next s.takeReset
    else (s.afterEdges 1).runTick s.pinRead
  else .refused .configOutsideConstraints

end Sys2Proof.Machine
end

