-- ==== Sys2Proof/Machine/Step.lean ====
section
/-! DEFINITION. One step of the machine is one tick (44_sequencer.md R142), and where a table word is placed. -/

namespace Sys2Proof.Machine

/-- One tick of `clk` (00_scope.md R7, R10(a)). -/
def step (s : State) : Host.Outcome State Fault Refusal := s.tick

/-- `s` with the table word's code in `evt` at the DISPATCH tick, so that the next step fetches and runs it
(10_state.md R27, 42_counter_dispatch.md R110; log entry 9). -/
def State.withFetchWord (s : State) (_nbits w : Nat) : State := s.placeKeyCode (tableWordCode w)

end Sys2Proof.Machine
end

