-- ==== Sys2Proof/Machine/Run.lean ====
section
/-! DEFINITION. The block over many ticks, a faulted machine and its way out through `rst` among them (60_exceptions.md R161,
44_sequencer.md R143). -/

namespace Sys2Proof.Machine

/-- What there is between two clock edges: a machine that runs in a state, a machine stopped by a fault, or a configuration
that the model refuses. No register of 10_state.md R20 says that the machine is faulted, so the state does not hold it.
DESIGN CHOICE (safe), log entry 8. -/
inductive Block where
  /-- the machine takes ticks -/
  | running (s : State)
  /-- a tick was the fault `f`: the registers of `s` are as that tick found them, its environment is past the edges since -/
  | faulted (f : Fault) (s : State)
  /-- nothing is modelled of this block -/
  | refused (r : Refusal)
deriving DecidableEq, Repr

/-- One clock edge. On a fault no register is written, and "a faulted machine takes no further step except through `rst`"
(60_exceptions.md R161): an edge with `rst = 1` gives the reset state (44_sequencer.md R143). -/
def Block.tick : Block → Block
  | .running s =>
    match step s with
    | .next t => .running t
    | .fault f => .faulted f (s.afterEdges 1)
    | .refused r => .refused r
  | .faulted f s => if s.rstPin then .running s.takeReset else .faulted f (s.afterEdges 1)
  | .refused r => .refused r

/-- `n` clock edges. -/
def Block.ticks : Nat → Block → Block
  | 0, b => b
  | n + 1, b => Block.ticks n b.tick

/-- What a block is after its last edge, as an outcome. -/
def Block.outcome : Block → Host.Outcome State Fault Refusal
  | .running s => .next s
  | .faulted f _ => .fault f
  | .refused r => .refused r

/-- `n` ticks of the machine from `s`: the state then held, or the fault that then holds the machine. -/
def runTicks (n : Nat) (s : State) : Host.Outcome State Fault Refusal := ((Block.running s).ticks n).outcome

end Sys2Proof.Machine
end

