-- ==== Sys2Proof/Machine/Observation.lean ====
section
/-! DEFINITION. The output function and the traces an observer sees (44_sequencer.md R141, 00_scope.md R11). -/

namespace Sys2Proof.Machine

/-- The three output buses during one tick (10_state.md R32). `seg` is `seg[6:0]`; `seg7` is `seg[7]`, which exists when
`SEG_LINES` is 8 (30_encoding.md R75). The senses are logical for `dig_sel` and `seg` (00_scope.md R16). -/
structure Outputs where
  rowN : BitVec 3
  digSel : BitVec 3
  seg : BitVec 7
  seg7 : Option Bool
deriving DecidableEq, Repr

/-- `seg[7]`, if present, is 0 at all times (30_encoding.md R75). -/
def eighthLine : SegLines → Option Bool
  | .seven => none
  | .eight => some false

/-- `row_n` (44_sequencer.md R141): the row driven in a scan phase, else idle. -/
def State.rowN (s : State) : BitVec 3 :=
  match s.phase with
  | .scanA => rowPattern s.idx
  | .scanB => rowPattern s.idx
  | .settle => 0b111#3
  | .dispatch => 0b111#3
  | .showDigit => 0b111#3
  | .blank => 0b111#3

/-- `dig_sel` (44_sequencer.md R141): the position shown, else none. -/
def State.digSel (s : State) : BitVec 3 :=
  match s.phase with
  | .showDigit => digitPattern s.idx
  | .scanA => 0#3
  | .scanB => 0#3
  | .settle => 0#3
  | .dispatch => 0#3
  | .blank => 0#3

/-- `seg[6:0]` (44_sequencer.md R141, 30_encoding.md R85(d)): the pattern of the digit shown, else all off. -/
def State.seg (s : State) : BitVec 7 :=
  match s.phase with
  | .showDigit => romRead s.cfg s.snap[s.idx]
  | .scanA => 0#7
  | .scanB => 0#7
  | .settle => 0#7
  | .dispatch => 0#7
  | .blank => 0#7

/-- The output function: the outputs during a tick, a function of the state held alone (44_sequencer.md R141). -/
def outputs (s : State) : Outputs := ⟨s.rowN, s.digSel, s.seg, eighthLine s.cfg.segLines⟩

/-- The outputs during a tick of a faulted machine: free values, but for the eighth line, which is 0 "at all times"
(30_encoding.md R75). DESIGN CHOICE (safe), log entry 18. -/
def faultedOutputs (s : State) : Outputs :=
  ⟨Config.faultedRowN s.edges, Config.faultedDigSel s.edges, Config.faultedSeg s.edges, eighthLine s.cfg.segLines⟩

/-- The outputs of the coming `n` ticks of a block, the current tick first (00_scope.md R11); none of a refused one. -/
def Block.trace : Nat → Block → List Outputs
  | 0, _ => []
  | n + 1, .running s => outputs s :: Block.trace n (Block.running s).tick
  | n + 1, .faulted f s => faultedOutputs s :: Block.trace n (Block.faulted f s).tick
  | _ + 1, .refused _ => []

/-- The outputs of the coming `n` ticks from `s`. -/
def outputTrace (n : Nat) (s : State) : List Outputs := (Block.running s).trace n

/-- The current tick reads `col_n` at its ending edge (00_scope.md R19, 20_memory.md R54). -/
def State.isSampling (s : State) : Bool :=
  (decide (s.phase = .scanA) || decide (s.phase = .scanB)) && decide (s.tmr = 0)

end Sys2Proof.Machine
end

