-- ==== Sys2Proof/Machine/Stimulus.lean ====
section
/-! DEFINITION. The test fixture of 30_encoding.md R81 to R84: the ideal key matrix and the stimulus scripts. No rule of the
block uses it and no definition of the block imports it (00_scope.md R10; log entry 14). -/

namespace Sys2Proof.Machine

/-- `col_n` of the ideal matrix (30_encoding.md R81): column `c` is low if and only if some row line `r` is low and the key
at position `4r + c` is closed. PRESUMED (unsafe for claims about boards), log entry 14. -/
def idealColumns (rowN : BitVec 3) (keys : List (Fin 12)) : BitVec 4 :=
  let closed (c : Nat) : Bool :=
    keys.any fun p => decide (p.val % 4 = c) && !rowN.getLsbD (p.val / 4)
  BitVec.ofBoolListLE [!closed 0, !closed 1, !closed 2, !closed 3]

/-- What a statement of a script does (30_encoding.md R82). -/
inductive StimAction where
  | down (p : Fin 12)
  | up (p : Fin 12)
  | rst (b : Bool)
deriving DecidableEq, Repr

/-- `AT tick …`, one statement of a script (30_encoding.md R82). -/
structure Stim where
  tick : Nat
  action : StimAction
deriving DecidableEq, Repr

/-- The `AT` statements of a script, in order; the number after `RUN` is given to `runScript` (30_encoding.md R82). -/
abbrev Script := List Stim

/-- "Statements are listed in non-decreasing tick order" (30_encoding.md R82). -/
def Script.ordered : Script → Bool
  | [] => true
  | [_] => true
  | a :: b :: rest => decide (a.tick ≤ b.tick) && Script.ordered (b :: rest)

/-- Position `p` is in `keys(t)`: its latest statement with tick `≤ t` is `DOWN` (30_encoding.md R83). -/
def Script.isDown (sc : Script) (t : Nat) (p : Fin 12) : Bool :=
  sc.foldl (fun held x =>
    if x.tick ≤ t then
      match x.action with
      | .down q => if q = p then true else held
      | .up q => if q = p then false else held
      | .rst _ => held
    else held) false

/-- `keys(t)` (30_encoding.md R83). -/
def Script.keys (sc : Script) (t : Nat) : List (Fin 12) :=
  (List.finRange 12).filter (sc.isDown t)

/-- `rst(t)`: the value of the latest `RST` statement with tick `≤ t`, initially 0 (30_encoding.md R83). -/
def Script.rst (sc : Script) (t : Nat) : Bool :=
  sc.foldl (fun held x =>
    if x.tick ≤ t then
      match x.action with
      | .rst b => b
      | .down _ => held
      | .up _ => held
    else held) false

/-- `AT t TAP p FOR n` (30_encoding.md R84). -/
def Script.tap (t : Nat) (p : Fin 12) (n : Nat) : Script := [⟨t, .down p⟩, ⟨t + n, .up p⟩]

/-- `AT t BOUNCE p FOR n` (30_encoding.md R84): alternating from `DOWN` at `t` to tick `t + n`, and one more `DOWN` at
`t + n + 1` when `n` is odd. -/
def Script.bounce (t : Nat) (p : Fin 12) (n : Nat) : Script :=
  (List.range (n + 1 + n % 2)).map fun i => ⟨t + i, if i % 2 = 0 then .down p else .up p⟩

/-- `AT t RELEASEALL` (30_encoding.md R84). -/
def Script.releaseAll (t : Nat) : Script := (List.finRange 12).map fun p => ⟨t, .up p⟩

/-- What the fixture presents at the edge that ends tick `t` to a block that drives `rowN` (30_encoding.md R83). -/
def Script.input (sc : Script) (t : Nat) (rowN : BitVec 3) : Input := ⟨idealColumns rowN (sc.keys t), sc.rst t⟩

/-- `row_n` of a block. -/
def Block.rowN : Block → BitVec 3
  | .running s => s.rowN
  | .faulted _ s => (faultedOutputs s).rowN
  | .refused _ => 0b111#3

/-- The block with `i` at its coming edge. -/
def Block.present (i : Input) : Block → Block
  | .running s => .running { s with inputs := [i] }
  | .faulted f s => .faulted f { s with inputs := [i] }
  | .refused r => .refused r

/-- The block reads `col_n` at the edge that ends the current tick. -/
def Block.isSampling : Block → Bool
  | .running s => s.isSampling
  | .faulted _ _ => false
  | .refused _ => false

/-- Tick `t` of a script. -/
def Script.tick (sc : Script) (t : Nat) (b : Block) : Block := (b.present (sc.input t b.rowN)).tick

/-- `n` ticks of a script from tick `t` (30_encoding.md R83). -/
def runScript (sc : Script) : Nat → Nat → Block → Block
  | 0, _, b => b
  | n + 1, t, b => runScript sc n (t + 1) (sc.tick t b)

/-- The "encoding" of a script: the `col_n` values at the sampling edges, in order, each with its tick
(30_encoding.md R83). -/
def scriptEncoding (sc : Script) : Nat → Nat → Block → List (Nat × BitVec 4)
  | 0, _, _ => []
  | n + 1, t, b =>
    let rest := scriptEncoding sc n (t + 1) (sc.tick t b)
    if b.isSampling then (t, (sc.input t b.rowN).col) :: rest else rest

end Sys2Proof.Machine
end

