-- ==== Sys2Proof/Machine/Iteration.lean ====
section
/-! DEFINITION. The iteration function: one loop iteration as the source fixes it (44_sequencer.md R150), beside the tick
function that refines it. -/

namespace Sys2Proof.Machine

/-- The values of `col_n` at the three sampling edges of a sweep that starts `n` ticks from now (40_input_scanner.md R94):
row `r` is sampled at the edge that ends tick `n + (r + 1) * T_STAB - 1`. -/
def State.samplesAt (s : State) (n : Nat) : Samples :=
  ⟨(s.inputAt (n + s.cfg.tStab - 1)).col, (s.inputAt (n + 2 * s.cfg.tStab - 1)).col,
    (s.inputAt (n + 3 * s.cfg.tStab - 1)).col⟩

/-- The Debouncer's registers after one run whose sweeps take the samples `a` and, if there is a second, `b`
(41_debouncer.md R100; 44_sequencer.md R150). -/
def State.debounce (s : State) (a b : Samples) : State :=
  if sweep a = noKey then (s.setPrev noKey).setEvt noKey
  else if sweep a = s.prev then s.setEvt noKey
  else if sweep b = sweep a then ((s.setCand (sweep a)).setPrev (sweep a)).setEvt (sweep a)
  else (s.setCand (sweep a)).setEvt noKey

/-- The iteration settles and scans a second time (41_debouncer.md R100 step (2)). -/
def State.reconfirms (s : State) (a : Samples) : Bool :=
  decide (sweep a ≠ noKey) && decide (sweep a ≠ s.prev)

/-- Ticks of the Debouncer's run (70_reset_and_hazards.md R194, R195). -/
def State.debounceTicks (s : State) (a b : Samples) : Nat :=
  sweepRows a * s.cfg.tStab +
    if s.reconfirms a then s.cfg.tSettle + sweepRows b * s.cfg.tStab else 0

/-- Ticks of a refresh pass (43_display_multiplexer.md R136). -/
def refreshTicks (c : Cfg) : Nat := 3 * (c.tOn + c.tBlank)

/-- Ticks of the loop iteration (70_reset_and_hazards.md R195). -/
def State.iterationTicks (s : State) (a b : Samples) : Nat :=
  s.debounceTicks a b + 1 + refreshTicks s.cfg

/-- The first scan's samples of the iteration that starts now. -/
def State.firstSamples (s : State) : Samples := s.samplesAt 0

/-- The reconfirming scan's samples of the iteration that starts now, if it has one. -/
def State.secondSamples (s : State) : Samples :=
  s.samplesAt (sweepRows s.firstSamples * s.cfg.tStab + s.cfg.tSettle)

/-- The start of the next iteration: the refresh pass writes no register but the sequencer (43_display_multiplexer.md
R130). -/
def State.toLoopStart (s : State) : State := s.setSeq .scanA 0 (s.cfg.tStab - 1)

/-- The iteration function (44_sequencer.md R150): the state at the start of the next iteration, or the fault. The inputs
are not consumed here. -/
def State.iterate (s : State) (a b : Samples) : Host.Outcome State Fault Refusal :=
  match (s.debounce a b).dispatchTick with
  | .next t => .next t.toLoopStart
  | .fault f => .fault f
  | .refused r => .refused r

end Sys2Proof.Machine
end

