-- ==== Sys2Proof/Safety.lean ====
section
/-! DEFINITION. The terms in which claims about runs of the block are stated: legal states, runs, frames. -/

namespace Sys2Proof.Machine

/-- The configuration meets its constraints and `rst` is 0 at the edge that ends the current tick: the tick is taken by the
phase arms of 44_sequencer.md R142. -/
abbrev State.Running (s : State) : Prop := s.cfg.wellFormed = true ∧ s.rstPin = false

/-- `rst` is 0 at each of the coming `n` edges. -/
abbrev State.NoResetFor (s : State) (n : Nat) : Prop := ∀ i < n, (s.inputAt i).rst = false

/-- A code that the block produces: a key index 0 to 9, or `None` (10_state.md R28). -/
abbrev legalKey (w : KeyCode) : Prop := w.toNat ≤ 9 ∨ w = noKey

/-- `counts[0] + counts[1] + ... + counts[7]` (10_state.md R35). -/
def sumCounts (v : Vector Nat 8) : Nat := v[0] + v[1] + v[2] + v[3] + v[4] + v[5] + v[6] + v[7]

/-- CounterState and DisplaySnapshot are the same (00_scope.md R18). -/
abbrev SameCounters (s t : State) : Prop :=
  t.counts = s.counts ∧ t.total = s.total ∧ t.mode = s.mode ∧ t.snap = s.snap

/-- The Debouncer's registers are the same (10_state.md R25, R26, R27). -/
abbrev SameDebouncer (s t : State) : Prop := t.prev = s.prev ∧ t.cand = s.cand ∧ t.evt = s.evt

/-- `seq = (P, i, t)` (10_state.md R30). -/
abbrev State.SeqIs (s : State) (p : Phase) (i : Fin 3) (t : Nat) : Prop := s.phase = p ∧ s.idx = i ∧ s.tmr = t

/-- The configuration is the same and the environment has gone on by `n` edges (log entries 1 and 2). -/
abbrev EnvAdvanced (n : Nat) (s t : State) : Prop :=
  t.cfg = s.cfg ∧ t.inputs = s.inputs.drop n ∧ t.edges = s.edges + n

/-- Legal sequencer values, the table of 10_state.md R31. -/
abbrev State.SeqLegal (s : State) : Prop :=
  (s.phase = .scanA → s.tmr < s.cfg.tStab) ∧
  (s.phase = .settle → s.idx = 0 ∧ s.tmr < s.cfg.tSettle) ∧
  (s.phase = .scanB → s.tmr < s.cfg.tStab) ∧
  (s.phase = .dispatch → s.idx = 0 ∧ s.tmr = 0) ∧
  (s.phase = .showDigit → s.tmr < s.cfg.tOn) ∧
  (s.phase = .blank → s.tmr < s.cfg.tBlank)

/-- Legal values of the KeyIdentity registers (10_state.md R28). -/
abbrev State.KeysLegal (s : State) : Prop := legalKey s.prev ∧ legalKey s.cand ∧ legalKey s.evt

/-- Every count fits its register of `CNT_W` bits and `total` its `CNT_W + 3` (10_state.md R20, R22). -/
abbrev State.CountersFit (s : State) : Prop :=
  (∀ k : Fin 8, s.counts[k] < 2 ^ s.cfg.cntW) ∧ s.total < 2 ^ s.cfg.totalW

/-- While a candidate is being confirmed it is a key and a new one (41_debouncer.md R103, R104). -/
abbrev State.CandidateIsNew (s : State) : Prop :=
  s.phase = .settle ∨ s.phase = .scanB → s.cand ≠ noKey ∧ s.cand ≠ s.prev

/-- An accepted event is the previously accepted key (41_debouncer.md R107(b)). -/
abbrev State.EventIsAccepted (s : State) : Prop := s.evt = noKey ∨ s.prev = s.evt

/-- The display shows zero whenever all counts are zero (42_counter_dispatch.md R123). -/
abbrev State.ZeroCountsShowZero (s : State) : Prop :=
  (∀ k : Fin 8, s.counts[k] = 0) → s.snap = Vector.replicate 3 0

/-- What holds in every reachable state: the configuration's constraints (00_scope.md R8), the invariants of 10_state.md
R28, R31, R35, the registers' widths (R20), and 41_debouncer.md R103, R104, R107(b), 42_counter_dispatch.md R123. -/
abbrev State.Inv (s : State) : Prop :=
  s.cfg.wellFormed = true ∧ s.CountersFit ∧ s.total = sumCounts s.counts ∧ s.KeysLegal ∧ s.SeqLegal ∧
    s.CandidateIsNew ∧ s.EventIsAccepted ∧ s.ZeroCountsShowZero

/-- A tick that a correct block may take: it has a next state, or it is the one reachable fault (00_scope.md R12). -/
abbrev SafeTick (s : State) : Prop :=
  (∃ t, step s = .next t) ∨ ∃ k, step s = .fault (.counterOverflow k)

/-- `n` edges later with the sequencer at `(p, i, t)` and no other register written. -/
abbrev State.movedTo (s : State) (n : Nat) (p : Phase) (i : Fin 3) (t : Nat) : State := (s.afterEdges n).setSeq p i t

/-- The iteration `s` starts has the given samples at its sampling edges and no reset before it ends. -/
abbrev State.WholeIteration (s : State) : Prop :=
  s.cfg.wellFormed = true ∧ s.atLoopStart = true ∧
    s.NoResetFor (s.iterationTicks s.firstSamples s.secondSamples)

/-- Populated position `q` is seen active by the samples: bit `q % 4` of the sample of row `q / 4` is 0
(20_memory.md R51). -/
def Samples.seesActive (a : Samples) (q : Fin 10) : Bool :=
  !(if q.val < 4 then a.row0 else if q.val < 8 then a.row1 else a.row2).getLsbD (q.val % 4)

/-- Idle buses: no row, no digit, no segment (44_sequencer.md R141). -/
def idleOutputs (c : Cfg) : Outputs := ⟨0b111#3, 0#3, 0#7, eighthLine c.segLines⟩

/-- The outputs of a sweep that drives the first `rows` rows, `T_STAB` ticks each (40_input_scanner.md R90). -/
def sweepTrace (c : Cfg) (rows : Nat) : List Outputs :=
  ((List.finRange 3).take rows).flatMap fun r =>
    List.replicate c.tStab ⟨rowPattern r, 0#3, 0#7, eighthLine c.segLines⟩

/-- The outputs of one refresh pass: each digit lit for `T_ON` ticks, then `T_BLANK` dark ticks, positions 0, 1, 2
(43_display_multiplexer.md R130). -/
def passTrace (c : Cfg) (snap : Vector Digit 3) : List Outputs :=
  (List.finRange 3).flatMap fun p =>
    List.replicate c.tOn ⟨0b111#3, digitPattern p, romRead c snap[p], eighthLine c.segLines⟩ ++
      List.replicate c.tBlank (idleOutputs c)

/-- The outputs of the Debouncer's run (41_debouncer.md R100): the first sweep, and for a new key the settle delay and the
second sweep. -/
def State.debounceTrace (s : State) (a b : Samples) : List Outputs :=
  sweepTrace s.cfg (sweepRows a) ++
    if s.reconfirms a then
      List.replicate s.cfg.tSettle (idleOutputs s.cfg) ++ sweepTrace s.cfg (sweepRows b)
    else []

end Sys2Proof.Machine
end

