-- ==== Sys2Proof/Certificates/Slice0/Obligations.lean ====
section
/-! DEFINITION. The statements for the provers. Every statement holds for every configuration that a state can hold and for
every input trace; the model's own fields (`cfg`, `inputs`, `edges`) are those of log entries 1 and 2. -/

open Sys2Proof Sys2Proof.Machine

/-! ### Encoding -/

/-- 30_encoding.md R70, R79: the operation map and the codes agree in both directions. -/
def Obligations.DecodeAndEncodeAgree : Prop :=
  (∀ i : Instr, i.wellFormed = true → decode (encode i) = .instr i) ∧
  ∀ (w : KeyCode) (i : Instr), decode w = .instr i → encode i = w

/-- 30_encoding.md R79, R80: the operation map on the codes written out, and the five reserved codes. -/
def Obligations.OperationMapOnWords : Prop :=
  decode 0b0000#4 = .instr (.count 0) ∧ decode 0b0101#4 = .instr (.count 5) ∧
  decode 0b0111#4 = .instr (.count 7) ∧ decode 0b1000#4 = .instr .reset ∧
  decode 0b1001#4 = .instr .toggle ∧ decode 0b1111#4 = .instr .none ∧
  ∀ w : KeyCode, 10 ≤ w.toNat → w.toNat ≤ 14 → decode w = .reservedKeyCode w

/-! ### A step runs the decoded operation -/

/-- 42_counter_dispatch.md R110, 44_sequencer.md R142: the DISPATCH tick is `exec` of the operation that `evt` decodes to,
past one edge of the environment. -/
def Obligations.DispatchTickRunsDecodedOperation : Prop :=
  ∀ (s : State) (i : Instr), s.Running → s.phase = .dispatch → decode s.evt = .instr i → i.wellFormed = true →
    step s = exec i { s with inputs := s.inputs.drop 1, edges := s.edges + 1 }

/-- Log entries 9 and 10: the table word that `withFetchWord` places is the one the next step runs. -/
def Obligations.PlacedWordIsRunNext : Prop :=
  ∀ (s : State) (nbits w : Nat) (i : Instr), s.cfg.wellFormed = true → decodeTableWord nbits w = some i →
    step (s.withFetchWord nbits w) = exec i ((s.withFetchWord nbits w).afterEdges 1)

/-- 42_counter_dispatch.md R115, 60_exceptions.md R162: a DISPATCH of a code 10 to 14 is the fault InvalidKeyCode, and no
run from reset meets it. -/
def Obligations.ReservedCodeFaultsAndIsUnreachable : Prop :=
  (∀ s : State, s.Running → s.phase = .dispatch → 10 ≤ s.evt.toNat → s.evt.toNat ≤ 14 →
    step s = .fault .invalidKeyCode) ∧
  ∀ (c : Cfg) (l : List Input) (e n : Nat), c.wellFormed = true →
    runTicks n (State.resetWith c l e) ≠ .fault .invalidKeyCode

/-! ### The four operations: results, frames, completion -/

/-- 42_counter_dispatch.md R111: `COUNT k`: its code, its result where the increment fits, and the fault where the count is
at its maximum. -/
def Obligations.CountIncrementsAndRecomputes : Prop :=
  ∀ (k : Fin 8) (s : State),
    (∀ w : KeyCode, decode w = .instr (.count k) ↔ w.toNat = k.val) ∧
    (s.counts[k] + 1 < 2 ^ s.cfg.cntW →
      exec (.count k) s = .next { s with
        counts := s.counts.set k (s.counts[k] + 1), total := s.total + 1,
        snap := digits (value s.cfg.pctRound s.mode (s.counts[k] + 1) (s.total + 1)),
        phase := .showDigit, idx := 0, tmr := s.cfg.tOn - 1 }) ∧
    (s.counts[k] = 2 ^ s.cfg.cntW - 1 → exec (.count k) s = .fault (.counterOverflow k))

/-- 42_counter_dispatch.md R112: `RESET`: its code; it clears counts, total and snapshot, and writes nothing else but the
sequencer. -/
def Obligations.ResetClearsCounters : Prop :=
  (∀ w : KeyCode, decode w = .instr .reset ↔ w = 0b1000#4) ∧
  ∀ s : State, exec .reset s = .next { s with
    counts := #v[0, 0, 0, 0, 0, 0, 0, 0], total := 0, snap := #v[0, 0, 0],
    phase := .showDigit, idx := 0, tmr := s.cfg.tOn - 1 }

/-- 42_counter_dispatch.md R113: `TOGGLE`: its code; it flips the mode and shows key 0 under the new mode. -/
def Obligations.ToggleFlipsModeAndShowsKeyZero : Prop :=
  (∀ w : KeyCode, decode w = .instr .toggle ↔ w = 0b1001#4) ∧
  ∀ (s : State) (m : Mode), m ≠ s.mode → exec .toggle s = .next { s with
    mode := m, snap := digits (value s.cfg.pctRound m s.counts[0] s.total),
    phase := .showDigit, idx := 0, tmr := s.cfg.tOn - 1 }

/-- 42_counter_dispatch.md R114: `NONE`: its code; it writes nothing but the sequencer. -/
def Obligations.NoneOnlyAdvancesSequencer : Prop :=
  (∀ w : KeyCode, decode w = .instr .none ↔ w = 0b1111#4) ∧
  ∀ s : State, exec .none s = .next { s with phase := .showDigit, idx := 0, tmr := s.cfg.tOn - 1 }

/-- 60_exceptions.md R161: the overflow at the DISPATCH tick writes no register and holds the machine while `rst` stays 0;
the first edge with `rst = 1`, the faulting edge itself or any later one, gives the reset state. That a run and not the state
holds the fault is the model's choice (log entry 8). -/
def Obligations.OverflowFaultsAndOnlyRstLeadsOn : Prop :=
  ∀ (k : Fin 8) (s : State), s.cfg.wellFormed = true → s.phase = .dispatch → s.evt.toNat = k.val →
    s.counts[k] = 2 ^ s.cfg.cntW - 1 →
    (s.rstPin = false → step s = .fault (.counterOverflow k)) ∧
    (∀ n, s.NoResetFor (n + 1) →
      runTicks (n + 1) s = .fault (.counterOverflow k) ∧
      (Block.running s).ticks (n + 1) = .faulted (.counterOverflow k) (s.afterEdges (n + 1))) ∧
    ∀ n, s.NoResetFor n → (s.inputAt n).rst = true →
      runTicks (n + 1) s = .next (State.resetWith s.cfg (s.inputs.drop (n + 1)) (s.edges + (n + 1)))

/-- 10_state.md R21 to R24: outside reset, `counts`, `total`, `mode` and `snap` change at DISPATCH ticks only, `counts[k]`
and `total` by `COUNT` (plus one) and `RESET` (to zero) alone, `mode` by `TOGGLE` alone, and `snap` by `COUNT` (the digits of
the new count's value), `RESET` (zeros) and `TOGGLE` (key 0's value under the new mode). -/
def Obligations.CounterStateWrittenOnlyByDispatch : Prop :=
  ∀ s t : State, s.Running → step s = .next t →
    (s.phase ≠ .dispatch → SameCounters s t) ∧
    (∀ k : Fin 8, t.counts[k] ≠ s.counts[k] →
      s.phase = .dispatch ∧
        ((s.evt.toNat = k.val ∧ t.counts[k] = s.counts[k] + 1) ∨ (s.evt = 8#4 ∧ t.counts[k] = 0))) ∧
    (t.total ≠ s.total →
      s.phase = .dispatch ∧
        ((s.evt.toNat ≤ 7 ∧ t.total = s.total + 1) ∨ (s.evt = 8#4 ∧ t.total = 0))) ∧
    (t.mode ≠ s.mode → s.phase = .dispatch ∧ s.evt = 9#4) ∧
    (t.snap ≠ s.snap →
      s.phase = .dispatch ∧
        ((∃ k : Fin 8, s.evt.toNat = k.val ∧
            t.snap = digits (value s.cfg.pctRound s.mode (s.counts[k] + 1) (s.total + 1))) ∨
          (s.evt = 8#4 ∧ t.snap = #v[0, 0, 0]) ∨
          (s.evt = 9#4 ∧ t.mode ≠ s.mode ∧
            t.snap = digits (value s.cfg.pctRound t.mode s.counts[0] s.total))))

/-- 10_state.md R25, R26, R27: outside reset, where `prev`, `cand` and `evt` are written, and what to. -/
def Obligations.DebouncerRegistersWrittenOnlyAtScanEnds : Prop :=
  ∀ s t : State, s.Running → step s = .next t →
    (t.prev ≠ s.prev → s.tmr = 0 ∧
      ((s.phase = .scanA ∧ s.idx = 2 ∧ rowdecode s.idx s.pinRead = noKey ∧ t.prev = noKey) ∨
       (s.phase = .scanB ∧ rowdecode s.idx s.pinRead = s.cand ∧ t.prev = s.cand))) ∧
    (t.cand ≠ s.cand → s.tmr = 0 ∧ s.phase = .scanA ∧
      t.cand = rowdecode s.idx s.pinRead ∧ t.cand ≠ noKey ∧ t.cand ≠ s.prev) ∧
    (t.evt ≠ s.evt → s.tmr = 0 ∧ (s.phase = .scanA ∨ s.phase = .scanB) ∧ t.phase = .dispatch ∧
      (t.evt = noKey ∨ (s.phase = .scanB ∧ t.evt = s.cand)))

/-! ### The snapshot arithmetic -/

/-- 42_counter_dispatch.md R116: the value to show. -/
def Obligations.ValueToShow : Prop :=
  ∀ (r : PctRound) (c t : Nat),
    value r .rawCount c t = c ∧ value r .percentage c 0 = 0 ∧
      (0 < t → value r .percentage c t = pct r c t)

/-- 42_counter_dispatch.md R117: the percentage, its rounding and its range. -/
def Obligations.PercentageRoundsAndStaysInRange : Prop :=
  (∀ c t : Nat, 0 < t →
    pct .nearestHalfUp c t = (200 * c + t) / (2 * t) ∧ pct .truncate c t = (100 * c) / t ∧
    2 * (pct .nearestHalfUp c t * t) ≤ 2 * (100 * c) + t ∧
    2 * (100 * c) + t < 2 * (pct .nearestHalfUp c t * t) + 2 * t ∧
    pct .truncate c t * t ≤ 100 * c ∧ 100 * c < pct .truncate c t * t + t) ∧
  (∀ (r : PctRound) (t : Nat), 0 < t → pct r t t = 100 ∧ pct r 0 t = 0) ∧
  ∀ (s : State) (k : Fin 8), s.Inv → 0 < s.total →
    s.counts[k] ≤ s.total ∧ pct s.cfg.pctRound s.counts[k] s.total ≤ 100

/-- 42_counter_dispatch.md R118: clamp at 999 and split into hundreds, tens and units. -/
def Obligations.DigitsClampAndSplit : Prop :=
  ∀ v : Nat,
    (digits v)[0].val = min v 999 / 100 ∧ (digits v)[1].val = min v 999 / 10 % 10 ∧
    (digits v)[2].val = min v 999 % 10 ∧
    100 * (digits v)[0].val + 10 * (digits v)[1].val + (digits v)[2].val = min v 999 ∧
    (999 ≤ v → digits v = #v[9, 9, 9])

/-! ### InputScanner -/

/-- 30_encoding.md R73: within a row the lowest-numbered active populated column wins. -/
def Obligations.RowDecodeLowestPopulatedColumn : Prop :=
  ∀ (r : Fin 3) (s : BitVec 4),
    (∀ c : Fin 4, (rowdecode r s).toNat = 4 * r.val + c.val ↔
      s.getLsbD c.val = false ∧ 4 * r.val + c.val < 10 ∧
        ∀ d : Fin 4, d < c → s.getLsbD d.val = true) ∧
    (rowdecode r s = noKey ↔ ∀ c : Fin 4, 4 * r.val + c.val < 10 → s.getLsbD c.val = true)

/-- 40_input_scanner.md R92: a sampling tick drives its row and goes on to the next row, or ends the sweep with its result;
the row line of an ended sweep is deasserted from the next tick on. -/
def Obligations.SamplingTickOfSweep : Prop :=
  ∀ s : State, s.Running → s.isSampling = true →
    outputs s = ⟨~~~(1#3 <<< s.idx.val) &&& 0b111#3, 0#3, 0#7, eighthLine s.cfg.segLines⟩ ∧
    (rowdecode s.idx s.pinRead = noKey ∧ s.idx < 2 →
      step s = .next (s.movedTo 1 s.phase (s.idx + 1) (s.cfg.tStab - 1))) ∧
    (¬(rowdecode s.idx s.pinRead = noKey ∧ s.idx < 2) →
      (s.phase = .scanA → step s = .next ((s.afterEdges 1).firstScanEnds (rowdecode s.idx s.pinRead))) ∧
      (s.phase = .scanB → step s = .next ((s.afterEdges 1).reconfirmEnds (rowdecode s.idx s.pinRead))) ∧
      ∀ t, step s = .next t → t.rowN = 0b111#3)

/-- 40_input_scanner.md R94, R98: a sweep run tick by tick is the function of its samples, and lasts `(h + 1) * T_STAB`
ticks, `3 * T_STAB` when the result is `None`. -/
def Obligations.SweepIsFunctionOfItsSamples : Prop :=
  ∀ s : State, s.cfg.wellFormed = true → s.phase = .scanA ∨ s.phase = .scanB → s.idx = 0 →
    s.tmr = s.cfg.tStab - 1 → s.NoResetFor (sweepRows s.firstSamples * s.cfg.tStab) →
    runTicks (sweepRows s.firstSamples * s.cfg.tStab) s = .next
      (let t := s.afterEdges (sweepRows s.firstSamples * s.cfg.tStab)
       if s.phase = .scanA then t.firstScanEnds (sweep s.firstSamples)
       else t.reconfirmEnds (sweep s.firstSamples)) ∧
    (∀ h : Fin 3, (sweep s.firstSamples).toNat / 4 = h.val →
      sweepRows s.firstSamples * s.cfg.tStab = (h.val + 1) * s.cfg.tStab) ∧
    (sweep s.firstSamples = noKey → sweepRows s.firstSamples = 3)

/-- 40_input_scanner.md R95: a sweep reports the lowest-numbered populated position seen active, and `None` if there is
none. -/
def Obligations.SweepReportsLowestActivePosition : Prop :=
  ∀ a : Samples,
    (∀ p : Fin 10, (sweep a).toNat = p.val ↔
      a.seesActive p = true ∧ ∀ q : Fin 10, q < p → a.seesActive q = false) ∧
    (sweep a = noKey ↔ ∀ q : Fin 10, a.seesActive q = false)

/-- 40_input_scanner.md R93: closures at positions 10 and 11 (columns 2 and 3 of row 2) change no sweep, and alone they
read as no key. -/
def Obligations.UnpopulatedPositionsInvisible : Prop :=
  (∀ a b : Samples, a.row0 = b.row0 → a.row1 = b.row1 → a.row2 &&& 0b0011#4 = b.row2 &&& 0b0011#4 →
    sweep a = sweep b ∧ sweepRows a = sweepRows b) ∧
  ∀ a : Samples, a.row0 = 0b1111#4 → a.row1 = 0b1111#4 → a.row2 &&& 0b0011#4 = 0b0011#4 → sweep a = noKey

/-- 20_memory.md R54: the value of `col_n` at an edge that ends no sampling tick influences no state and no output. -/
def Obligations.ColumnsReadOnlyAtSamplingEdges : Prop :=
  ∀ (s : State) (c d : BitVec 4) (r : Bool) (l : List Input), s.isSampling = false →
    step { s with inputs := ⟨c, r⟩ :: l } = step { s with inputs := ⟨d, r⟩ :: l } ∧
    outputs { s with inputs := ⟨c, r⟩ :: l } = outputs { s with inputs := ⟨d, r⟩ :: l }

/-! ### Debouncer -/

/-- 41_debouncer.md R101: the first scan returns `None`. -/
def Obligations.FirstScanNoneClearsPrev : Prop :=
  ∀ s : State, s.Running → s.phase = .scanA → s.tmr = 0 → s.idx = 2 → rowdecode s.idx s.pinRead = noKey →
    step s = .next { s.afterEdges 1 with
      prev := noKey, evt := noKey, phase := .dispatch, idx := 0, tmr := 0 }

/-- 41_debouncer.md R102: the first scan returns the held key. -/
def Obligations.FirstScanHeldKeyIsDropped : Prop :=
  ∀ s : State, s.Running → s.phase = .scanA → s.tmr = 0 → rowdecode s.idx s.pinRead ≠ noKey →
    rowdecode s.idx s.pinRead = s.prev →
    step s = .next { s.afterEdges 1 with evt := noKey, phase := .dispatch, idx := 0, tmr := 0 }

/-- 41_debouncer.md R103: the first scan returns a new key. -/
def Obligations.FirstScanNewKeyStartsSettle : Prop :=
  ∀ s : State, s.Running → s.phase = .scanA → s.tmr = 0 → rowdecode s.idx s.pinRead ≠ noKey →
    rowdecode s.idx s.pinRead ≠ s.prev →
    step s = .next { s.afterEdges 1 with
      cand := rowdecode s.idx s.pinRead, phase := .settle, idx := 0, tmr := s.cfg.tSettle - 1 }

/-- 41_debouncer.md R104: the reconfirming scan ends, accepted or rejected; in a state that the invariant allows `None` is
always a mismatch. -/
def Obligations.ReconfirmingScanAcceptsOnlyTheSameKey : Prop :=
  ∀ s : State, s.Running → s.phase = .scanB → s.tmr = 0 →
    ¬(rowdecode s.idx s.pinRead = noKey ∧ s.idx < 2) →
    (rowdecode s.idx s.pinRead = s.cand →
      step s = .next { s.afterEdges 1 with
        prev := s.cand, evt := s.cand, phase := .dispatch, idx := 0, tmr := 0 }) ∧
    (rowdecode s.idx s.pinRead ≠ s.cand →
      step s = .next { s.afterEdges 1 with evt := noKey, phase := .dispatch, idx := 0, tmr := 0 }) ∧
    (s.Inv → rowdecode s.idx s.pinRead = noKey → rowdecode s.idx s.pinRead ≠ s.cand)

/-- 41_debouncer.md R105: a `SETTLE` tick, its outputs, and the length of the phase. -/
def Obligations.SettlePhase : Prop :=
  (∀ s : State, s.phase = .settle →
    s.rowN = 0b111#3 ∧ s.digSel = 0#3 ∧ s.seg = 0#7 ∧
    (s.Running →
      (0 < s.tmr → step s = .next { s.afterEdges 1 with tmr := s.tmr - 1 }) ∧
      (s.tmr = 0 → step s = .next (s.movedTo 1 .scanB 0 (s.cfg.tStab - 1))))) ∧
  ∀ s : State, s.cfg.wellFormed = true → s.phase = .settle → s.tmr = s.cfg.tSettle - 1 →
    s.NoResetFor s.cfg.tSettle →
    (∀ n < s.cfg.tSettle, ∃ t, runTicks n s = .next t ∧ t.phase = .settle) ∧
    runTicks s.cfg.tSettle s = .next (s.movedTo s.cfg.tSettle .scanB 0 (s.cfg.tStab - 1))

/-- 41_debouncer.md R106, 60_exceptions.md R168: two scans that disagree yield no event (counters and `prev` as they were);
two identical scans of a new key make it the accepted key. -/
def Obligations.ReconfirmationDecidesTheEvent : Prop :=
  ∀ (s t : State), s.WholeIteration → s.reconfirms s.firstSamples = true →
    runTicks (s.iterationTicks s.firstSamples s.secondSamples) s = .next t →
    t.cand = sweep s.firstSamples ∧
    (sweep s.secondSamples ≠ sweep s.firstSamples →
      SameCounters s t ∧ t.prev = s.prev ∧ t.evt = noKey) ∧
    (sweep s.secondSamples = sweep s.firstSamples →
      t.prev = sweep s.firstSamples ∧ t.evt = sweep s.firstSamples)

/-- 41_debouncer.md R106, "Edge-triggering", under the premise the rule gives: while every first scan returns the accepted
key `k`, `n` loop iterations (70_reset_and_hazards.md R195: `(h+1)*T_STAB + 1 + R` ticks each) change no counter. -/
def Obligations.HeldKeyProducesNoFurtherEvent : Prop :=
  ∀ (s : State) (n : Nat) (h : Fin 3),
    let len := (h.val + 1) * s.cfg.tStab + 1 + 3 * (s.cfg.tOn + s.cfg.tBlank)
    s.cfg.wellFormed = true → s.atLoopStart = true → s.prev.toNat ≤ 9 → s.prev.toNat / 4 = h.val →
    s.NoResetFor (n * len) →
    (∀ j < n, sweep (s.samplesAt (j * len)) = s.prev) →
    ∃ t, runTicks (n * len) s = .next t ∧ SameCounters s t ∧ t.prev = s.prev ∧ t.atLoopStart = true ∧
      (0 < n → t.evt = noKey)

/-! ### DisplayMultiplexer and outputs -/

/-- 44_sequencer.md R141: the output function, phase by phase. -/
def Obligations.OutputFunction : Prop :=
  ∀ s : State,
    (s.phase = .scanA ∨ s.phase = .scanB →
      (outputs s).rowN = ~~~(1#3 <<< s.idx.val) &&& 0b111#3 ∧ (outputs s).digSel = 0#3 ∧ (outputs s).seg = 0#7) ∧
    (s.phase = .settle ∨ s.phase = .dispatch ∨ s.phase = .blank →
      (outputs s).rowN = 0b111#3 ∧ (outputs s).digSel = 0#3 ∧ (outputs s).seg = 0#7) ∧
    (s.phase = .showDigit →
      (outputs s).rowN = 0b111#3 ∧ (outputs s).digSel = 1#3 <<< s.idx.val ∧
        (outputs s).seg = s.cfg.segTable[s.snap[s.idx]]) ∧
    (s.cfg.segLines = .seven → (outputs s).seg7 = none) ∧
    (s.cfg.segLines = .eight → (outputs s).seg7 = some false)

/-- 44_sequencer.md R153, 30_encoding.md R72, R74, 43_display_multiplexer.md R134(c) to (e): only the legal bus values are
driven, and no row is asserted while a digit is selected. -/
def Obligations.KeypadAndDisplayNeverActiveTogether : Prop :=
  ∀ s : State,
    (s.rowN ≠ 0b111#3 → s.phase = .scanA ∨ s.phase = .scanB) ∧ (s.digSel ≠ 0#3 → s.phase = .showDigit) ∧
    (s.rowN = 0b111#3 ∨ s.digSel = 0#3) ∧ (s.seg ≠ 0#7 → s.digSel ≠ 0#3) ∧
    (s.rowN = 0b111#3 ∨ s.rowN = 0b110#3 ∨ s.rowN = 0b101#3 ∨ s.rowN = 0b011#3) ∧
    (s.digSel = 0b000#3 ∨ s.digSel = 0b001#3 ∨ s.digSel = 0b010#3 ∨ s.digSel = 0b100#3)

/-- 43_display_multiplexer.md R131: a `SHOW` tick, and the `T_ON` ticks a position is lit. -/
def Obligations.ShowPhase : Prop :=
  (∀ s : State, s.phase = .showDigit →
    outputs s = ⟨0b111#3, 1#3 <<< s.idx.val, romRead s.cfg s.snap[s.idx], eighthLine s.cfg.segLines⟩ ∧
    (s.Running →
      (0 < s.tmr → step s = .next { s.afterEdges 1 with tmr := s.tmr - 1 }) ∧
      (s.tmr = 0 → step s = .next (s.movedTo 1 .blank s.idx (s.cfg.tBlank - 1))))) ∧
  ∀ s : State, s.cfg.wellFormed = true → s.phase = .showDigit → s.tmr = s.cfg.tOn - 1 → s.NoResetFor s.cfg.tOn →
    outputTrace s.cfg.tOn s = List.replicate s.cfg.tOn (outputs s) ∧
    runTicks s.cfg.tOn s = .next (s.movedTo s.cfg.tOn .blank s.idx (s.cfg.tBlank - 1))

/-- 43_display_multiplexer.md R132: a `BLANK` tick, and the `T_BLANK` dark ticks. -/
def Obligations.BlankPhase : Prop :=
  (∀ s : State, s.phase = .blank →
    outputs s = idleOutputs s.cfg ∧
    (s.Running →
      (0 < s.tmr → step s = .next { s.afterEdges 1 with tmr := s.tmr - 1 }) ∧
      (s.tmr = 0 → s.idx < 2 → step s = .next (s.movedTo 1 .showDigit (s.idx + 1) (s.cfg.tOn - 1))) ∧
      (s.tmr = 0 → s.idx = 2 → step s = .next (s.movedTo 1 .scanA 0 (s.cfg.tStab - 1))))) ∧
  ∀ s : State, s.cfg.wellFormed = true → s.phase = .blank → s.tmr = s.cfg.tBlank - 1 →
    s.NoResetFor s.cfg.tBlank → outputTrace s.cfg.tBlank s = List.replicate s.cfg.tBlank (idleOutputs s.cfg)

/-- 43_display_multiplexer.md R130, R133, R136: one refresh pass: its outputs tick by tick, its length, and that it writes
no register but the sequencer. -/
def Obligations.RefreshPassShowsTheSnapshot : Prop :=
  ∀ s : State, s.cfg.wellFormed = true → s.SeqIs .showDigit 0 (s.cfg.tOn - 1) →
    s.NoResetFor (3 * (s.cfg.tOn + s.cfg.tBlank)) →
    outputTrace (3 * (s.cfg.tOn + s.cfg.tBlank)) s = passTrace s.cfg s.snap ∧
    runTicks (3 * (s.cfg.tOn + s.cfg.tBlank)) s =
      .next (s.movedTo (3 * (s.cfg.tOn + s.cfg.tBlank)) .scanA 0 (s.cfg.tStab - 1))

/-! ### The sequencer -/

/-- 44_sequencer.md R145: a tick with `tmr > 0` only decrements it, so a (phase, idx) entered with `tmr = T - 1` lasts
exactly `T` ticks. -/
def Obligations.WaitingTicksOnlyCountDown : Prop :=
  (∀ s : State, s.Running → s.phase ≠ .dispatch → 0 < s.tmr →
    step s = .next { s.afterEdges 1 with tmr := s.tmr - 1 }) ∧
  ∀ s : State, s.cfg.wellFormed = true → s.phase ≠ .dispatch → s.NoResetFor (s.tmr + 1) →
    (∀ n ≤ s.tmr, runTicks n s = .next { s.afterEdges n with tmr := s.tmr - n }) ∧
    ∃ t, runTicks (s.tmr + 1) s = .next t ∧ (t.phase ≠ s.phase ∨ t.idx ≠ s.idx)

/-- 44_sequencer.md R144: the table of control transfers, from every legal sequencer value. -/
def Obligations.ControlTransfers : Prop :=
  ∀ s t : State, s.cfg.wellFormed = true → s.SeqLegal → step s = .next t →
    (s.rstPin = true → t = State.resetWith s.cfg (s.inputs.drop 1) (s.edges + 1)) ∧
    (s.rstPin = false →
      (0 < s.tmr → t.phase = s.phase ∧ t.idx = s.idx) ∧
      (s.tmr = 0 →
        (s.phase = .scanA →
          (rowdecode s.idx s.pinRead = noKey → s.idx < 2 → t.SeqIs .scanA (s.idx + 1) (s.cfg.tStab - 1)) ∧
          (rowdecode s.idx s.pinRead = noKey → s.idx = 2 → t.SeqIs .dispatch 0 0) ∧
          (rowdecode s.idx s.pinRead ≠ noKey → rowdecode s.idx s.pinRead = s.prev → t.SeqIs .dispatch 0 0) ∧
          (rowdecode s.idx s.pinRead ≠ noKey → rowdecode s.idx s.pinRead ≠ s.prev →
            t.SeqIs .settle 0 (s.cfg.tSettle - 1))) ∧
        (s.phase = .settle → t.SeqIs .scanB 0 (s.cfg.tStab - 1)) ∧
        (s.phase = .scanB →
          (rowdecode s.idx s.pinRead = noKey ∧ s.idx < 2 → t.SeqIs .scanB (s.idx + 1) (s.cfg.tStab - 1)) ∧
          (¬(rowdecode s.idx s.pinRead = noKey ∧ s.idx < 2) → t.SeqIs .dispatch 0 0)) ∧
        (s.phase = .dispatch → t.SeqIs .showDigit 0 (s.cfg.tOn - 1)) ∧
        (s.phase = .showDigit → t.SeqIs .blank s.idx (s.cfg.tBlank - 1)) ∧
        (s.phase = .blank →
          (s.idx < 2 → t.SeqIs .showDigit (s.idx + 1) (s.cfg.tOn - 1)) ∧
          (s.idx = 2 → t.SeqIs .scanA 0 (s.cfg.tStab - 1)))))

/-- 42_counter_dispatch.md R110: every DISPATCH tick that has a next state lasts one tick, ends at the first digit and leaves
the Debouncer's registers alone; its outputs are idle. -/
def Obligations.DispatchTickFrame : Prop :=
  ∀ s : State, s.phase = .dispatch →
    outputs s = idleOutputs s.cfg ∧
    ∀ t, s.Running → step s = .next t →
      SameDebouncer s t ∧ t.SeqIs .showDigit 0 (s.cfg.tOn - 1) ∧ EnvAdvanced 1 s t

/-- 44_sequencer.md R154: from every state the invariant allows, with `rst = 0` and any columns, the next loop start is
reached within the bound, or the counter overflows. -/
def Obligations.ProgressToTheNextLoopStart : Prop :=
  ∀ s : State, s.Inv →
    s.NoResetFor (2 * 3 * s.cfg.tStab + s.cfg.tSettle + 1 + 3 * (s.cfg.tOn + s.cfg.tBlank)) →
    ∃ n, 1 ≤ n ∧ n ≤ 2 * 3 * s.cfg.tStab + s.cfg.tSettle + 1 + 3 * (s.cfg.tOn + s.cfg.tBlank) ∧
      ((∃ t, runTicks n s = .next t ∧ t.SeqIs .scanA 0 (t.cfg.tStab - 1)) ∨
        ∃ k, runTicks n s = .fault (.counterOverflow k))

/-- 44_sequencer.md R150: the ticks of one loop iteration compute the iteration function of the samples (70 R195 gives the
number of ticks). -/
def Obligations.IterationFunctionIsRefinedByTicks : Prop :=
  ∀ s : State, s.WholeIteration →
    let len := s.iterationTicks s.firstSamples s.secondSamples
    (∀ t, s.iterate s.firstSamples s.secondSamples = .next t → runTicks len s = .next (t.afterEdges len)) ∧
    (∀ f, s.iterate s.firstSamples s.secondSamples = .fault f → runTicks len s = .fault f) ∧
    ((∃ k, s.iterate s.firstSamples s.secondSamples = .fault (.counterOverflow k)) ∨
      ∃ t, s.iterate s.firstSamples s.secondSamples = .next t)

/-- 44_sequencer.md R150, R152: the outputs of one loop iteration: the rows of each sweep, idle through settling and
dispatch, then the refresh pass of the NEW snapshot. -/
def Obligations.IterationOutputsShowTheNewSnapshot : Prop :=
  ∀ s t : State, s.WholeIteration → s.iterate s.firstSamples s.secondSamples = .next t →
    outputTrace (s.iterationTicks s.firstSamples s.secondSamples) s =
      s.debounceTrace s.firstSamples s.secondSamples ++ [idleOutputs s.cfg] ++ passTrace s.cfg t.snap

/-! ### Invariants and reset -/

/-- 10_state.md R20, R28, R31, R35, 41_debouncer.md R107(b), 42_counter_dispatch.md R123: every step keeps the invariant. -/
def Obligations.EveryStepKeepsInv : Prop :=
  ∀ s t : State, s.Inv → step s = .next t → t.Inv

/-- 10_state.md R33: the reset state of every configuration has the invariant, and so has `State.reset` (whose configuration
is the model's choice, log entry 1). -/
def Obligations.ResetStateHasInv : Prop :=
  (∀ (c : Cfg) (l : List Input) (e : Nat), c.wellFormed = true → (State.resetWith c l e).Inv) ∧ State.reset.Inv

/-- 10_state.md R31, R35: in every state reached from reset, under any inputs, `total` is the sum of the counts and the
sequencer's and the KeyIdentity registers' values are legal, and the counters fit their widths. -/
def Obligations.ReachableStatesAreLegal : Prop :=
  ∀ (c : Cfg) (l : List Input) (e n : Nat) (t : State), c.wellFormed = true →
    runTicks n (State.resetWith c l e) = .next t →
    t.total = t.counts[0] + t.counts[1] + t.counts[2] + t.counts[3] + t.counts[4] + t.counts[5] + t.counts[6] +
      t.counts[7] ∧ t.SeqLegal ∧ t.KeysLegal ∧ t.CountersFit

/-- 00_scope.md R12, 44_sequencer.md R142: a state the invariant allows has a next state at every tick, but for the counter
overflow, which needs exactly the conditions of 60_exceptions.md R161. -/
def Obligations.OnlyCounterOverflowStopsTheBlock : Prop :=
  ∀ s : State, s.Inv →
    (∃ t, step s = .next t) ∨
    ∃ k : Fin 8, step s = .fault (.counterOverflow k) ∧ s.rstPin = false ∧ s.phase = .dispatch ∧
      s.evt.toNat = k.val ∧ s.counts[k] = 2 ^ s.cfg.cntW - 1

/-- 44_sequencer.md R143: `rst` has priority over every arm, and while it stays 1 the machine stays in the reset state. -/
def Obligations.RstGivesTheResetState : Prop :=
  ∀ (s : State) (n : Nat), s.cfg.wellFormed = true → (∀ i < n + 1, (s.inputAt i).rst = true) →
    runTicks (n + 1) s = .next (State.resetWith s.cfg (s.inputs.drop (n + 1)) (s.edges + (n + 1)))

/-- 10_state.md R33: the value of every register after reset, and the outputs of the reset state. -/
def Obligations.ResetStateValues : Prop :=
  ∀ (c : Cfg) (l : List Input) (e : Nat),
    let r := State.resetWith c l e
    (∀ k : Fin 8, r.counts[k] = 0) ∧ r.total = 0 ∧ r.mode = .rawCount ∧ r.mode.code = 0 ∧ r.snap = #v[0, 0, 0] ∧
    r.prev = noKey ∧ r.cand = noKey ∧ r.evt = noKey ∧ r.phase = .scanA ∧ r.idx = 0 ∧ r.tmr = c.tStab - 1 ∧
    r.rowN = 0b110#3 ∧ r.digSel = 0#3 ∧ r.seg = 0#7

/-- 70_reset_and_hazards.md R182: a counting key that both scans of the first iteration see is counted once in it. -/
def Obligations.KeyHeldAtResetCountsInTheFirstIteration : Prop :=
  ∀ (c : Cfg) (l : List Input) (e : Nat) (k : Fin 8),
    let s := State.resetWith c l e
    s.WholeIteration → (sweep s.firstSamples).toNat = k.val → sweep s.secondSamples = sweep s.firstSamples →
    ∃ t, runTicks (s.iterationTicks s.firstSamples s.secondSamples) s = .next t ∧
      t.counts = (Vector.replicate 8 0).set k 1 ∧ t.total = 1 ∧ t.snap = #v[0, 0, 1] ∧
      t.prev.toNat = k.val ∧ t.atLoopStart = true

/-! ### Configuration, environment, fixture -/

/-- 93_implementation_defined.md U8: every tick of a configuration outside its constraints is refused by name. -/
def Obligations.ConfigOutsideConstraintsIsRefused : Prop :=
  ∀ s : State,
    s.cfg.tStab = 0 ∨ s.cfg.tSettle = 0 ∨ s.cfg.tOn = 0 ∨ s.cfg.tBlank = 0 ∨ s.cfg.cntW < 10 ↔
      step s = .refused .configOutsideConstraints

/-- 10_state.md R34, 00_scope.md R10: no step writes the configuration, and each passes one edge of the environment. The
fields are the model's choice (log entries 1 and 2). -/
def Obligations.StepKeepsConfigurationAndTakesOneInput : Prop :=
  ∀ s t : State, step s = .next t → EnvAdvanced 1 s t

/-- 30_encoding.md R81: the ideal matrix pulls a column low exactly for a closed key whose row is asserted. -/
def Obligations.IdealMatrixColumns : Prop :=
  ∀ (rowN : BitVec 3) (keys : List (Fin 12)),
    (∀ c : Fin 4, (idealColumns rowN keys).getLsbD c.val = false ↔
      ∃ (r : Fin 3) (p : Fin 12), p ∈ keys ∧ rowN.getLsbD r.val = false ∧ p.val = 4 * r.val + c.val) ∧
    (rowN = 0b111#3 → idealColumns rowN keys = 0b1111#4)
end

