-- ==== Sys2Proof/Laws/State.lean ====
section
/-! SUPPORT. One lemma per field of State and per register update, each true by rfl, so that no proof unfolds a record
update. -/

namespace Sys2Proof.Machine

-- State.afterEdges
@[simp] theorem State.afterEdges_counts (s : State) (n : Nat) :
    (s.afterEdges n).counts = s.counts := rfl
@[simp] theorem State.afterEdges_total (s : State) (n : Nat) :
    (s.afterEdges n).total = s.total := rfl
@[simp] theorem State.afterEdges_mode (s : State) (n : Nat) :
    (s.afterEdges n).mode = s.mode := rfl
@[simp] theorem State.afterEdges_snap (s : State) (n : Nat) :
    (s.afterEdges n).snap = s.snap := rfl
@[simp] theorem State.afterEdges_prev (s : State) (n : Nat) :
    (s.afterEdges n).prev = s.prev := rfl
@[simp] theorem State.afterEdges_cand (s : State) (n : Nat) :
    (s.afterEdges n).cand = s.cand := rfl
@[simp] theorem State.afterEdges_evt (s : State) (n : Nat) :
    (s.afterEdges n).evt = s.evt := rfl
@[simp] theorem State.afterEdges_phase (s : State) (n : Nat) :
    (s.afterEdges n).phase = s.phase := rfl
@[simp] theorem State.afterEdges_idx (s : State) (n : Nat) :
    (s.afterEdges n).idx = s.idx := rfl
@[simp] theorem State.afterEdges_tmr (s : State) (n : Nat) :
    (s.afterEdges n).tmr = s.tmr := rfl
@[simp] theorem State.afterEdges_cfg (s : State) (n : Nat) :
    (s.afterEdges n).cfg = s.cfg := rfl
@[simp] theorem State.afterEdges_inputs (s : State) (n : Nat) :
    (s.afterEdges n).inputs = s.inputs.drop n := rfl
@[simp] theorem State.afterEdges_edges (s : State) (n : Nat) :
    (s.afterEdges n).edges = s.edges + n := rfl

-- State.setSeq
@[simp] theorem State.setSeq_counts (s : State) (p : Phase) (i : Fin 3) (t : Nat) :
    (s.setSeq p i t).counts = s.counts := rfl
@[simp] theorem State.setSeq_total (s : State) (p : Phase) (i : Fin 3) (t : Nat) :
    (s.setSeq p i t).total = s.total := rfl
@[simp] theorem State.setSeq_mode (s : State) (p : Phase) (i : Fin 3) (t : Nat) :
    (s.setSeq p i t).mode = s.mode := rfl
@[simp] theorem State.setSeq_snap (s : State) (p : Phase) (i : Fin 3) (t : Nat) :
    (s.setSeq p i t).snap = s.snap := rfl
@[simp] theorem State.setSeq_prev (s : State) (p : Phase) (i : Fin 3) (t : Nat) :
    (s.setSeq p i t).prev = s.prev := rfl
@[simp] theorem State.setSeq_cand (s : State) (p : Phase) (i : Fin 3) (t : Nat) :
    (s.setSeq p i t).cand = s.cand := rfl
@[simp] theorem State.setSeq_evt (s : State) (p : Phase) (i : Fin 3) (t : Nat) :
    (s.setSeq p i t).evt = s.evt := rfl
@[simp] theorem State.setSeq_phase (s : State) (p : Phase) (i : Fin 3) (t : Nat) :
    (s.setSeq p i t).phase = p := rfl
@[simp] theorem State.setSeq_idx (s : State) (p : Phase) (i : Fin 3) (t : Nat) :
    (s.setSeq p i t).idx = i := rfl
@[simp] theorem State.setSeq_tmr (s : State) (p : Phase) (i : Fin 3) (t : Nat) :
    (s.setSeq p i t).tmr = t := rfl
@[simp] theorem State.setSeq_cfg (s : State) (p : Phase) (i : Fin 3) (t : Nat) :
    (s.setSeq p i t).cfg = s.cfg := rfl
@[simp] theorem State.setSeq_inputs (s : State) (p : Phase) (i : Fin 3) (t : Nat) :
    (s.setSeq p i t).inputs = s.inputs := rfl
@[simp] theorem State.setSeq_edges (s : State) (p : Phase) (i : Fin 3) (t : Nat) :
    (s.setSeq p i t).edges = s.edges := rfl

-- State.countDown
@[simp] theorem State.countDown_counts (s : State) :
    (s.countDown).counts = s.counts := rfl
@[simp] theorem State.countDown_total (s : State) :
    (s.countDown).total = s.total := rfl
@[simp] theorem State.countDown_mode (s : State) :
    (s.countDown).mode = s.mode := rfl
@[simp] theorem State.countDown_snap (s : State) :
    (s.countDown).snap = s.snap := rfl
@[simp] theorem State.countDown_prev (s : State) :
    (s.countDown).prev = s.prev := rfl
@[simp] theorem State.countDown_cand (s : State) :
    (s.countDown).cand = s.cand := rfl
@[simp] theorem State.countDown_evt (s : State) :
    (s.countDown).evt = s.evt := rfl
@[simp] theorem State.countDown_phase (s : State) :
    (s.countDown).phase = s.phase := rfl
@[simp] theorem State.countDown_idx (s : State) :
    (s.countDown).idx = s.idx := rfl
@[simp] theorem State.countDown_tmr (s : State) :
    (s.countDown).tmr = s.tmr - 1 := rfl
@[simp] theorem State.countDown_cfg (s : State) :
    (s.countDown).cfg = s.cfg := rfl
@[simp] theorem State.countDown_inputs (s : State) :
    (s.countDown).inputs = s.inputs := rfl
@[simp] theorem State.countDown_edges (s : State) :
    (s.countDown).edges = s.edges := rfl

-- State.setPrev
@[simp] theorem State.setPrev_counts (s : State) (k : KeyCode) :
    (s.setPrev k).counts = s.counts := rfl
@[simp] theorem State.setPrev_total (s : State) (k : KeyCode) :
    (s.setPrev k).total = s.total := rfl
@[simp] theorem State.setPrev_mode (s : State) (k : KeyCode) :
    (s.setPrev k).mode = s.mode := rfl
@[simp] theorem State.setPrev_snap (s : State) (k : KeyCode) :
    (s.setPrev k).snap = s.snap := rfl
@[simp] theorem State.setPrev_prev (s : State) (k : KeyCode) :
    (s.setPrev k).prev = k := rfl
@[simp] theorem State.setPrev_cand (s : State) (k : KeyCode) :
    (s.setPrev k).cand = s.cand := rfl
@[simp] theorem State.setPrev_evt (s : State) (k : KeyCode) :
    (s.setPrev k).evt = s.evt := rfl
@[simp] theorem State.setPrev_phase (s : State) (k : KeyCode) :
    (s.setPrev k).phase = s.phase := rfl
@[simp] theorem State.setPrev_idx (s : State) (k : KeyCode) :
    (s.setPrev k).idx = s.idx := rfl
@[simp] theorem State.setPrev_tmr (s : State) (k : KeyCode) :
    (s.setPrev k).tmr = s.tmr := rfl
@[simp] theorem State.setPrev_cfg (s : State) (k : KeyCode) :
    (s.setPrev k).cfg = s.cfg := rfl
@[simp] theorem State.setPrev_inputs (s : State) (k : KeyCode) :
    (s.setPrev k).inputs = s.inputs := rfl
@[simp] theorem State.setPrev_edges (s : State) (k : KeyCode) :
    (s.setPrev k).edges = s.edges := rfl

-- State.setCand
@[simp] theorem State.setCand_counts (s : State) (k : KeyCode) :
    (s.setCand k).counts = s.counts := rfl
@[simp] theorem State.setCand_total (s : State) (k : KeyCode) :
    (s.setCand k).total = s.total := rfl
@[simp] theorem State.setCand_mode (s : State) (k : KeyCode) :
    (s.setCand k).mode = s.mode := rfl
@[simp] theorem State.setCand_snap (s : State) (k : KeyCode) :
    (s.setCand k).snap = s.snap := rfl
@[simp] theorem State.setCand_prev (s : State) (k : KeyCode) :
    (s.setCand k).prev = s.prev := rfl
@[simp] theorem State.setCand_cand (s : State) (k : KeyCode) :
    (s.setCand k).cand = k := rfl
@[simp] theorem State.setCand_evt (s : State) (k : KeyCode) :
    (s.setCand k).evt = s.evt := rfl
@[simp] theorem State.setCand_phase (s : State) (k : KeyCode) :
    (s.setCand k).phase = s.phase := rfl
@[simp] theorem State.setCand_idx (s : State) (k : KeyCode) :
    (s.setCand k).idx = s.idx := rfl
@[simp] theorem State.setCand_tmr (s : State) (k : KeyCode) :
    (s.setCand k).tmr = s.tmr := rfl
@[simp] theorem State.setCand_cfg (s : State) (k : KeyCode) :
    (s.setCand k).cfg = s.cfg := rfl
@[simp] theorem State.setCand_inputs (s : State) (k : KeyCode) :
    (s.setCand k).inputs = s.inputs := rfl
@[simp] theorem State.setCand_edges (s : State) (k : KeyCode) :
    (s.setCand k).edges = s.edges := rfl

-- State.setEvt
@[simp] theorem State.setEvt_counts (s : State) (k : KeyCode) :
    (s.setEvt k).counts = s.counts := rfl
@[simp] theorem State.setEvt_total (s : State) (k : KeyCode) :
    (s.setEvt k).total = s.total := rfl
@[simp] theorem State.setEvt_mode (s : State) (k : KeyCode) :
    (s.setEvt k).mode = s.mode := rfl
@[simp] theorem State.setEvt_snap (s : State) (k : KeyCode) :
    (s.setEvt k).snap = s.snap := rfl
@[simp] theorem State.setEvt_prev (s : State) (k : KeyCode) :
    (s.setEvt k).prev = s.prev := rfl
@[simp] theorem State.setEvt_cand (s : State) (k : KeyCode) :
    (s.setEvt k).cand = s.cand := rfl
@[simp] theorem State.setEvt_evt (s : State) (k : KeyCode) :
    (s.setEvt k).evt = k := rfl
@[simp] theorem State.setEvt_phase (s : State) (k : KeyCode) :
    (s.setEvt k).phase = s.phase := rfl
@[simp] theorem State.setEvt_idx (s : State) (k : KeyCode) :
    (s.setEvt k).idx = s.idx := rfl
@[simp] theorem State.setEvt_tmr (s : State) (k : KeyCode) :
    (s.setEvt k).tmr = s.tmr := rfl
@[simp] theorem State.setEvt_cfg (s : State) (k : KeyCode) :
    (s.setEvt k).cfg = s.cfg := rfl
@[simp] theorem State.setEvt_inputs (s : State) (k : KeyCode) :
    (s.setEvt k).inputs = s.inputs := rfl
@[simp] theorem State.setEvt_edges (s : State) (k : KeyCode) :
    (s.setEvt k).edges = s.edges := rfl

-- State.flipMode
@[simp] theorem State.flipMode_counts (s : State) :
    (s.flipMode).counts = s.counts := rfl
@[simp] theorem State.flipMode_total (s : State) :
    (s.flipMode).total = s.total := rfl
@[simp] theorem State.flipMode_mode (s : State) :
    (s.flipMode).mode = s.mode.flip := rfl
@[simp] theorem State.flipMode_snap (s : State) :
    (s.flipMode).snap = s.snap := rfl
@[simp] theorem State.flipMode_prev (s : State) :
    (s.flipMode).prev = s.prev := rfl
@[simp] theorem State.flipMode_cand (s : State) :
    (s.flipMode).cand = s.cand := rfl
@[simp] theorem State.flipMode_evt (s : State) :
    (s.flipMode).evt = s.evt := rfl
@[simp] theorem State.flipMode_phase (s : State) :
    (s.flipMode).phase = s.phase := rfl
@[simp] theorem State.flipMode_idx (s : State) :
    (s.flipMode).idx = s.idx := rfl
@[simp] theorem State.flipMode_tmr (s : State) :
    (s.flipMode).tmr = s.tmr := rfl
@[simp] theorem State.flipMode_cfg (s : State) :
    (s.flipMode).cfg = s.cfg := rfl
@[simp] theorem State.flipMode_inputs (s : State) :
    (s.flipMode).inputs = s.inputs := rfl
@[simp] theorem State.flipMode_edges (s : State) :
    (s.flipMode).edges = s.edges := rfl

-- State.countKey
@[simp] theorem State.countKey_counts (s : State) (k : Fin 8) :
    (s.countKey k).counts = s.counts.set k (s.counts[k] + 1) := rfl
@[simp] theorem State.countKey_total (s : State) (k : Fin 8) :
    (s.countKey k).total = s.total + 1 := rfl
@[simp] theorem State.countKey_mode (s : State) (k : Fin 8) :
    (s.countKey k).mode = s.mode := rfl
@[simp] theorem State.countKey_snap (s : State) (k : Fin 8) :
    (s.countKey k).snap = s.snap := rfl
@[simp] theorem State.countKey_prev (s : State) (k : Fin 8) :
    (s.countKey k).prev = s.prev := rfl
@[simp] theorem State.countKey_cand (s : State) (k : Fin 8) :
    (s.countKey k).cand = s.cand := rfl
@[simp] theorem State.countKey_evt (s : State) (k : Fin 8) :
    (s.countKey k).evt = s.evt := rfl
@[simp] theorem State.countKey_phase (s : State) (k : Fin 8) :
    (s.countKey k).phase = s.phase := rfl
@[simp] theorem State.countKey_idx (s : State) (k : Fin 8) :
    (s.countKey k).idx = s.idx := rfl
@[simp] theorem State.countKey_tmr (s : State) (k : Fin 8) :
    (s.countKey k).tmr = s.tmr := rfl
@[simp] theorem State.countKey_cfg (s : State) (k : Fin 8) :
    (s.countKey k).cfg = s.cfg := rfl
@[simp] theorem State.countKey_inputs (s : State) (k : Fin 8) :
    (s.countKey k).inputs = s.inputs := rfl
@[simp] theorem State.countKey_edges (s : State) (k : Fin 8) :
    (s.countKey k).edges = s.edges := rfl

-- State.recompute
@[simp] theorem State.recompute_counts (s : State) (k : Fin 8) :
    (s.recompute k).counts = s.counts := rfl
@[simp] theorem State.recompute_total (s : State) (k : Fin 8) :
    (s.recompute k).total = s.total := rfl
@[simp] theorem State.recompute_mode (s : State) (k : Fin 8) :
    (s.recompute k).mode = s.mode := rfl
@[simp] theorem State.recompute_snap (s : State) (k : Fin 8) :
    (s.recompute k).snap = digits (value s.cfg.pctRound s.mode s.counts[k] s.total) := rfl
@[simp] theorem State.recompute_prev (s : State) (k : Fin 8) :
    (s.recompute k).prev = s.prev := rfl
@[simp] theorem State.recompute_cand (s : State) (k : Fin 8) :
    (s.recompute k).cand = s.cand := rfl
@[simp] theorem State.recompute_evt (s : State) (k : Fin 8) :
    (s.recompute k).evt = s.evt := rfl
@[simp] theorem State.recompute_phase (s : State) (k : Fin 8) :
    (s.recompute k).phase = s.phase := rfl
@[simp] theorem State.recompute_idx (s : State) (k : Fin 8) :
    (s.recompute k).idx = s.idx := rfl
@[simp] theorem State.recompute_tmr (s : State) (k : Fin 8) :
    (s.recompute k).tmr = s.tmr := rfl
@[simp] theorem State.recompute_cfg (s : State) (k : Fin 8) :
    (s.recompute k).cfg = s.cfg := rfl
@[simp] theorem State.recompute_inputs (s : State) (k : Fin 8) :
    (s.recompute k).inputs = s.inputs := rfl
@[simp] theorem State.recompute_edges (s : State) (k : Fin 8) :
    (s.recompute k).edges = s.edges := rfl

-- State.clearCounters
@[simp] theorem State.clearCounters_counts (s : State) :
    (s.clearCounters).counts = Vector.replicate 8 0 := rfl
@[simp] theorem State.clearCounters_total (s : State) :
    (s.clearCounters).total = 0 := rfl
@[simp] theorem State.clearCounters_mode (s : State) :
    (s.clearCounters).mode = s.mode := rfl
@[simp] theorem State.clearCounters_snap (s : State) :
    (s.clearCounters).snap = Vector.replicate 3 0 := rfl
@[simp] theorem State.clearCounters_prev (s : State) :
    (s.clearCounters).prev = s.prev := rfl
@[simp] theorem State.clearCounters_cand (s : State) :
    (s.clearCounters).cand = s.cand := rfl
@[simp] theorem State.clearCounters_evt (s : State) :
    (s.clearCounters).evt = s.evt := rfl
@[simp] theorem State.clearCounters_phase (s : State) :
    (s.clearCounters).phase = s.phase := rfl
@[simp] theorem State.clearCounters_idx (s : State) :
    (s.clearCounters).idx = s.idx := rfl
@[simp] theorem State.clearCounters_tmr (s : State) :
    (s.clearCounters).tmr = s.tmr := rfl
@[simp] theorem State.clearCounters_cfg (s : State) :
    (s.clearCounters).cfg = s.cfg := rfl
@[simp] theorem State.clearCounters_inputs (s : State) :
    (s.clearCounters).inputs = s.inputs := rfl
@[simp] theorem State.clearCounters_edges (s : State) :
    (s.clearCounters).edges = s.edges := rfl

-- State.placeKeyCode
@[simp] theorem State.placeKeyCode_counts (s : State) (w : KeyCode) :
    (s.placeKeyCode w).counts = s.counts := rfl
@[simp] theorem State.placeKeyCode_total (s : State) (w : KeyCode) :
    (s.placeKeyCode w).total = s.total := rfl
@[simp] theorem State.placeKeyCode_mode (s : State) (w : KeyCode) :
    (s.placeKeyCode w).mode = s.mode := rfl
@[simp] theorem State.placeKeyCode_snap (s : State) (w : KeyCode) :
    (s.placeKeyCode w).snap = s.snap := rfl
@[simp] theorem State.placeKeyCode_prev (s : State) (w : KeyCode) :
    (s.placeKeyCode w).prev = s.prev := rfl
@[simp] theorem State.placeKeyCode_cand (s : State) (w : KeyCode) :
    (s.placeKeyCode w).cand = s.cand := rfl
@[simp] theorem State.placeKeyCode_evt (s : State) (w : KeyCode) :
    (s.placeKeyCode w).evt = w := rfl
@[simp] theorem State.placeKeyCode_phase (s : State) (w : KeyCode) :
    (s.placeKeyCode w).phase = .dispatch := rfl
@[simp] theorem State.placeKeyCode_idx (s : State) (w : KeyCode) :
    (s.placeKeyCode w).idx = 0 := rfl
@[simp] theorem State.placeKeyCode_tmr (s : State) (w : KeyCode) :
    (s.placeKeyCode w).tmr = 0 := rfl
@[simp] theorem State.placeKeyCode_cfg (s : State) (w : KeyCode) :
    (s.placeKeyCode w).cfg = s.cfg := rfl
@[simp] theorem State.placeKeyCode_inputs (s : State) (w : KeyCode) :
    (s.placeKeyCode w).inputs = Input.idle :: s.inputs.drop 1 := rfl
@[simp] theorem State.placeKeyCode_edges (s : State) (w : KeyCode) :
    (s.placeKeyCode w).edges = s.edges := rfl

-- State.resetWith and State.takeReset
@[simp] theorem State.resetWith_counts (c : Cfg) (l : List Input) (e : Nat) :
    (State.resetWith c l e).counts = Vector.replicate 8 0 := rfl
@[simp] theorem State.resetWith_total (c : Cfg) (l : List Input) (e : Nat) :
    (State.resetWith c l e).total = 0 := rfl
@[simp] theorem State.resetWith_mode (c : Cfg) (l : List Input) (e : Nat) :
    (State.resetWith c l e).mode = .rawCount := rfl
@[simp] theorem State.resetWith_snap (c : Cfg) (l : List Input) (e : Nat) :
    (State.resetWith c l e).snap = Vector.replicate 3 0 := rfl
@[simp] theorem State.resetWith_prev (c : Cfg) (l : List Input) (e : Nat) :
    (State.resetWith c l e).prev = noKey := rfl
@[simp] theorem State.resetWith_cand (c : Cfg) (l : List Input) (e : Nat) :
    (State.resetWith c l e).cand = noKey := rfl
@[simp] theorem State.resetWith_evt (c : Cfg) (l : List Input) (e : Nat) :
    (State.resetWith c l e).evt = noKey := rfl
@[simp] theorem State.resetWith_phase (c : Cfg) (l : List Input) (e : Nat) :
    (State.resetWith c l e).phase = .scanA := rfl
@[simp] theorem State.resetWith_idx (c : Cfg) (l : List Input) (e : Nat) :
    (State.resetWith c l e).idx = 0 := rfl
@[simp] theorem State.resetWith_tmr (c : Cfg) (l : List Input) (e : Nat) :
    (State.resetWith c l e).tmr = c.tStab - 1 := rfl
@[simp] theorem State.resetWith_cfg (c : Cfg) (l : List Input) (e : Nat) :
    (State.resetWith c l e).cfg = c := rfl
@[simp] theorem State.resetWith_inputs (c : Cfg) (l : List Input) (e : Nat) :
    (State.resetWith c l e).inputs = l := rfl
@[simp] theorem State.resetWith_edges (c : Cfg) (l : List Input) (e : Nat) :
    (State.resetWith c l e).edges = e := rfl
@[simp] theorem State.takeReset_eq (s : State) :
    s.takeReset = State.resetWith s.cfg (s.inputs.drop 1) (s.edges + 1) := rfl

-- The sequencer writes that have a name of their own
@[simp] theorem State.endDispatch_eq (s : State) :
    s.endDispatch = s.setSeq .showDigit 0 (s.cfg.tOn - 1) := rfl
@[simp] theorem State.toDispatch_eq (s : State) :
    s.toDispatch = s.setSeq .dispatch 0 0 := rfl
@[simp] theorem State.nextRow_eq (s : State) :
    s.nextRow = s.setSeq s.phase (s.idx + 1) (s.cfg.tStab - 1) := rfl

end Sys2Proof.Machine
end

