-- ==== Sys2Proof/Laws/Ops.lean ====
section
/-! SUPPORT. What each shared operation does, said once: the environment's inputs, the scanner's and the dispatcher's
operations. -/

namespace Sys2Proof.Machine

/-! ### The environment -/

@[simp] theorem State.afterEdges_zero (s : State) : s.afterEdges 0 = s := by
  simp [State.afterEdges]

@[simp] theorem State.afterEdges_afterEdges (s : State) (m n : Nat) :
    (s.afterEdges m).afterEdges n = s.afterEdges (m + n) := by
  simp [State.afterEdges, List.drop_drop, Nat.add_assoc]

/-- The edges that come after `m` edges are the later edges of the state before them. -/
@[simp] theorem State.inputAt_afterEdges (s : State) (m n : Nat) :
    (s.afterEdges m).inputAt n = s.inputAt (m + n) := by
  simp [State.inputAt, State.afterEdges, List.getElem?_drop, Nat.add_assoc]

/-- The inputs depend on the model's two input fields alone. -/
theorem State.inputAt_congr {s t : State} (hi : t.inputs = s.inputs) (he : t.edges = s.edges) (n : Nat) :
    t.inputAt n = s.inputAt n := by
  simp [State.inputAt, hi, he]

@[simp] theorem State.inputAt_setSeq (s : State) (p : Phase) (i : Fin 3) (t n : Nat) :
    (s.setSeq p i t).inputAt n = s.inputAt n := rfl

@[simp] theorem State.inputAt_countDown (s : State) (n : Nat) : s.countDown.inputAt n = s.inputAt n := rfl

@[simp] theorem State.inputAt_setPrev (s : State) (k : KeyCode) (n : Nat) :
    (s.setPrev k).inputAt n = s.inputAt n := rfl

@[simp] theorem State.inputAt_setCand (s : State) (k : KeyCode) (n : Nat) :
    (s.setCand k).inputAt n = s.inputAt n := rfl

@[simp] theorem State.inputAt_setEvt (s : State) (k : KeyCode) (n : Nat) :
    (s.setEvt k).inputAt n = s.inputAt n := rfl

theorem State.pinRead_eq (s : State) : s.pinRead = (s.inputAt 0).col := rfl

theorem State.rstPin_eq (s : State) : s.rstPin = (s.inputAt 0).rst := rfl

/-- An input that the list holds is the one presented. -/
@[simp] theorem State.inputAt_cons_zero (s : State) (i : Input) (l : List Input) :
    ({ s with inputs := i :: l } : State).inputAt 0 = i := rfl

/-! ### The sequencer -/

@[simp] theorem State.setSeq_setSeq (s : State) (p q : Phase) (i j : Fin 3) (m n : Nat) :
    (s.setSeq p i m).setSeq q j n = s.setSeq q j n := rfl

@[simp] theorem State.setSeq_afterEdges (s : State) (p : Phase) (i : Fin 3) (t n : Nat) :
    (s.setSeq p i t).afterEdges n = (s.afterEdges n).setSeq p i t := rfl

/-- Counting down is a write of the sequencer. -/
theorem State.countDown_eq (s : State) : s.countDown = s.setSeq s.phase s.idx (s.tmr - 1) := rfl

/-- Writing the sequencer's own values changes nothing. -/
@[simp] theorem State.setSeq_self (s : State) : s.setSeq s.phase s.idx s.tmr = s := rfl

/-! ### Decoding -/

/-- Every code either is an operation's or is one of the reserved codes. -/
theorem decode_cases (w : KeyCode) :
    (∃ k : Fin 8, decode w = .instr (.count k) ∧ w.toNat = k.val) ∨
    (decode w = .instr .reset ∧ w = 8#4) ∨
    (decode w = .instr .toggle ∧ w = 9#4) ∨
    (decode w = .instr .none ∧ w = noKey) ∨
    (decode w = .reservedKeyCode w ∧ 10 ≤ w.toNat ∧ w.toNat ≤ 14) := by
  revert w; decide

/-! ### The scanner -/

/-- The scanner produces a key index 0 to 9 or `None` (10_state.md R28). -/
theorem rowdecode_range (r : Fin 3) (c : BitVec 4) :
    (rowdecode r c).toNat ≤ 9 ∨ rowdecode r c = noKey := by
  revert r c; decide

/-- What the end of a first scan does: one of the three cases of 41_debouncer.md R101 to R103. -/
theorem State.firstScanEnds_cases (s : State) (k : KeyCode) :
    (k = noKey ∧ s.firstScanEnds k = ((s.setPrev noKey).setEvt noKey).setSeq .dispatch 0 0) ∨
    (k ≠ noKey ∧ k = s.prev ∧ s.firstScanEnds k = (s.setEvt noKey).setSeq .dispatch 0 0) ∨
    (k ≠ noKey ∧ k ≠ s.prev ∧
      s.firstScanEnds k = (s.setCand k).setSeq .settle 0 (s.cfg.tSettle - 1)) := by
  unfold State.firstScanEnds
  by_cases h : k = noKey
  · exact .inl ⟨h, by simp [h]⟩
  · by_cases h' : k = s.prev
    · exact .inr (.inl ⟨h, h', by simp [h, ← h']⟩)
    · exact .inr (.inr ⟨h, h', by simp [h, h']⟩)

/-- What the end of a reconfirming scan does (41_debouncer.md R104). -/
theorem State.reconfirmEnds_cases (s : State) (k : KeyCode) :
    (k = s.cand ∧ s.reconfirmEnds k = ((s.setPrev s.cand).setEvt s.cand).setSeq .dispatch 0 0) ∨
    (k ≠ s.cand ∧ s.reconfirmEnds k = (s.setEvt noKey).setSeq .dispatch 0 0) := by
  unfold State.reconfirmEnds
  by_cases h : k = s.cand
  · exact .inl ⟨h, by simp [h]⟩
  · exact .inr ⟨h, by simp [h]⟩

theorem State.rowMissed_iff (s : State) (c : BitVec 4) :
    s.rowMissed c = true ↔ rowdecode s.idx c = noKey ∧ s.idx < 2 := by
  simp [State.rowMissed]

/-- What a `SCAN_A` tick does (40_input_scanner.md R91, R92). -/
theorem State.scanATick_cases (s : State) (c : BitVec 4) :
    (0 < s.tmr ∧ s.scanATick c = s.countDown) ∨
    (s.tmr = 0 ∧ rowdecode s.idx c = noKey ∧ s.idx < 2 ∧
      s.scanATick c = s.setSeq s.phase (s.idx + 1) (s.cfg.tStab - 1)) ∨
    (s.tmr = 0 ∧ ¬(rowdecode s.idx c = noKey ∧ s.idx < 2) ∧
      s.scanATick c = s.firstScanEnds (rowdecode s.idx c)) := by
  rcases Nat.eq_zero_or_pos s.tmr with h | h
  · by_cases hm : rowdecode s.idx c = noKey ∧ s.idx < 2
    · exact .inr (.inl ⟨h, hm.1, hm.2, by simp [State.scanATick, State.rowMissed, h, hm]⟩)
    · exact .inr (.inr ⟨h, hm, by
        have : s.rowMissed c = false := by
          rw [Bool.eq_false_iff]; exact fun e => hm ((s.rowMissed_iff c).1 e)
        simp [State.scanATick, h, this]⟩)
  · exact .inl ⟨h, by simp [State.scanATick, h]⟩

/-- What a `SCAN_B` tick does (40_input_scanner.md R91, R92). -/
theorem State.scanBTick_cases (s : State) (c : BitVec 4) :
    (0 < s.tmr ∧ s.scanBTick c = s.countDown) ∨
    (s.tmr = 0 ∧ rowdecode s.idx c = noKey ∧ s.idx < 2 ∧
      s.scanBTick c = s.setSeq s.phase (s.idx + 1) (s.cfg.tStab - 1)) ∨
    (s.tmr = 0 ∧ ¬(rowdecode s.idx c = noKey ∧ s.idx < 2) ∧
      s.scanBTick c = s.reconfirmEnds (rowdecode s.idx c)) := by
  rcases Nat.eq_zero_or_pos s.tmr with h | h
  · by_cases hm : rowdecode s.idx c = noKey ∧ s.idx < 2
    · exact .inr (.inl ⟨h, hm.1, hm.2, by simp [State.scanBTick, State.rowMissed, h, hm]⟩)
    · exact .inr (.inr ⟨h, hm, by
        have : s.rowMissed c = false := by
          rw [Bool.eq_false_iff]; exact fun e => hm ((s.rowMissed_iff c).1 e)
        simp [State.scanBTick, h, this]⟩)
  · exact .inl ⟨h, by simp [State.scanBTick, h]⟩

/-- What a `SETTLE` tick does. -/
theorem State.settleTick_cases (s : State) :
    (0 < s.tmr ∧ s.settleTick = s.countDown) ∨
    (s.tmr = 0 ∧ s.settleTick = s.setSeq .scanB 0 (s.cfg.tStab - 1)) := by
  rcases Nat.eq_zero_or_pos s.tmr with h | h <;> simp [State.settleTick, h]

/-! ### The display -/

/-- What a `SHOW` tick does. -/
theorem State.showTick_cases (s : State) :
    (0 < s.tmr ∧ s.showTick = s.countDown) ∨
    (s.tmr = 0 ∧ s.showTick = s.setSeq .blank s.idx (s.cfg.tBlank - 1)) := by
  rcases Nat.eq_zero_or_pos s.tmr with h | h <;> simp [State.showTick, h]

/-- What a `BLANK` tick does. -/
theorem State.blankTick_cases (s : State) :
    (0 < s.tmr ∧ s.blankTick = s.countDown) ∨
    (s.tmr = 0 ∧ s.idx < 2 ∧ s.blankTick = s.setSeq .showDigit (s.idx + 1) (s.cfg.tOn - 1)) ∨
    (s.tmr = 0 ∧ ¬s.idx < 2 ∧ s.blankTick = s.setSeq .scanA 0 (s.cfg.tStab - 1)) := by
  rcases Nat.eq_zero_or_pos s.tmr with h | h
  · by_cases hi : s.idx < 2
    · exact .inr (.inl ⟨h, hi, by simp [State.blankTick, h, hi]⟩)
    · exact .inr (.inr ⟨h, hi, by simp [State.blankTick, h, hi]⟩)
  · exact .inl ⟨h, by simp [State.blankTick, h]⟩

/-! ### The dispatcher -/

theorem State.countFull_iff (s : State) (k : Fin 8) :
    s.countFull k = true ↔ 2 ^ s.cfg.cntW ≤ s.counts[k] + 1 := by
  simp [State.countFull]

/-- What `COUNT k` can do. -/
theorem execCount_cases (k : Fin 8) (s : State) :
    (2 ^ s.cfg.cntW ≤ s.counts[k] + 1 ∧ execCount k s = .fault (.counterOverflow k)) ∨
    (s.counts[k] + 1 < 2 ^ s.cfg.cntW ∧
      execCount k s = .next (((s.countKey k).recompute k).setSeq .showDigit 0 (s.cfg.tOn - 1))) := by
  by_cases h : 2 ^ s.cfg.cntW ≤ s.counts[k] + 1
  · exact .inl ⟨h, by simp [execCount, (s.countFull_iff k).2 h]⟩
  · have hf : s.countFull k = false := by
      rw [Bool.eq_false_iff]; exact fun e => h ((s.countFull_iff k).1 e)
    exact .inr ⟨Nat.lt_of_not_le h, by simp [execCount, hf]⟩

/-- The shapes of an operation's outcome: where `exec` answers, and what it answers. -/
theorem exec_cases (i : Instr) (s : State) :
    (∃ k, i = .count k ∧ 2 ^ s.cfg.cntW ≤ s.counts[k] + 1 ∧ exec i s = .fault (.counterOverflow k)) ∨
    (∃ k, i = .count k ∧ s.counts[k] + 1 < 2 ^ s.cfg.cntW ∧
      exec i s = .next (((s.countKey k).recompute k).setSeq .showDigit 0 (s.cfg.tOn - 1))) ∨
    (i = .reset ∧ exec i s = .next (s.clearCounters.setSeq .showDigit 0 (s.cfg.tOn - 1))) ∨
    (i = .toggle ∧ exec i s = .next ((s.flipMode.recompute 0).setSeq .showDigit 0 (s.cfg.tOn - 1))) ∨
    (i = .none ∧ exec i s = .next (s.setSeq .showDigit 0 (s.cfg.tOn - 1))) := by
  cases i with
  | count k =>
    rcases execCount_cases k s with ⟨h, e⟩ | ⟨h, e⟩
    · exact .inl ⟨k, rfl, h, e⟩
    · exact .inr (.inl ⟨k, rfl, h, e⟩)
  | reset => exact .inr (.inr (.inl ⟨rfl, rfl⟩))
  | toggle => exact .inr (.inr (.inr (.inl ⟨rfl, rfl⟩)))
  | none => exact .inr (.inr (.inr (.inr ⟨rfl, rfl⟩)))

/-- What a `DISPATCH` tick can do: run the decoded operation, or fault on a reserved code. -/
theorem State.dispatchTick_cases (s : State) :
    (∃ i, decode s.evt = .instr i ∧ s.dispatchTick = exec i s) ∨
    (decode s.evt = .reservedKeyCode s.evt ∧ s.dispatchTick = .fault .invalidKeyCode) := by
  rcases decode_cases s.evt with ⟨k, e, -⟩ | ⟨e, -⟩ | ⟨e, -⟩ | ⟨e, -⟩ | ⟨e, -⟩
  · exact .inl ⟨_, e, by simp [State.dispatchTick, e]⟩
  · exact .inl ⟨_, e, by simp [State.dispatchTick, e]⟩
  · exact .inl ⟨_, e, by simp [State.dispatchTick, e]⟩
  · exact .inl ⟨_, e, by simp [State.dispatchTick, e]⟩
  · exact .inr ⟨e, by simp [State.dispatchTick, e]⟩

end Sys2Proof.Machine
end

