-- ==== Sys2Proof/Laws/PerInstr.lean ====
section
/-! SUPPORT. Statements about every operation as syntax, one lemma per constructor. -/

/-- The code of an operation matches its own row of the operation map, mask and match (30_encoding.md R79). -/
def Sys2Proof.Laws.EncodingMatchesRow.Statement (i : Sys2Proof.Instr) : Prop :=
  Sys2Proof.encode i &&& i.mask = i.matchBits

theorem Sys2Proof.Laws.EncodingMatchesRow.count (k : Fin 8) :
    Sys2Proof.Laws.EncodingMatchesRow.Statement (.count k) := by
  revert k; unfold Sys2Proof.Laws.EncodingMatchesRow.Statement; decide

theorem Sys2Proof.Laws.EncodingMatchesRow.reset :
    Sys2Proof.Laws.EncodingMatchesRow.Statement .reset := by
  unfold Sys2Proof.Laws.EncodingMatchesRow.Statement; decide

theorem Sys2Proof.Laws.EncodingMatchesRow.toggle :
    Sys2Proof.Laws.EncodingMatchesRow.Statement .toggle := by
  unfold Sys2Proof.Laws.EncodingMatchesRow.Statement; decide

theorem Sys2Proof.Laws.EncodingMatchesRow.none :
    Sys2Proof.Laws.EncodingMatchesRow.Statement .none := by
  unfold Sys2Proof.Laws.EncodingMatchesRow.Statement; decide
end

