-- ==== Sys2Proof/Laws/Step.lean ====
section
/-! SUPPORT. What one step can do, said once (44_sequencer.md R142). -/

namespace Sys2Proof.Machine

/-- A step is a refusal of the configuration, the reset, or the phase's arm. -/
theorem step_cases (s : State) :
    (s.cfg.wellFormed = false ∧ step s = .refused .configOutsideConstraints) ∨
    (s.cfg.wellFormed = true ∧ s.rstPin = true ∧ step s = .next s.takeReset) ∨
    (s.cfg.wellFormed = true ∧ s.rstPin = false ∧ step s = (s.afterEdges 1).runTick s.pinRead) := by
  unfold step State.tick
  cases hc : s.cfg.wellFormed <;> cases hr : s.rstPin <;> simp

/-- The phase's arm, by phase. -/
theorem State.runTick_eq (s : State) (c : BitVec 4) :
    s.runTick c = match s.phase with
      | .scanA => .next (s.scanATick c)
      | .settle => .next s.settleTick
      | .scanB => .next (s.scanBTick c)
      | .dispatch => s.dispatchTick
      | .showDigit => .next s.showTick
      | .blank => .next s.blankTick := rfl

/-- A tick with well-formed configuration and `rst = 0` is taken by the phase's arm. -/
theorem step_of_running {s : State} (hc : s.cfg.wellFormed = true) (hr : s.rstPin = false) :
    step s = (s.afterEdges 1).runTick s.pinRead := by
  rcases step_cases s with ⟨a, -⟩ | ⟨-, a, -⟩ | ⟨-, -, e⟩
  · simp [hc] at a
  · simp [hr] at a
  · exact e

/-- A tick with well-formed configuration and `rst = 1` gives the reset state (44_sequencer.md R143). -/
theorem step_of_rst {s : State} (hc : s.cfg.wellFormed = true) (hr : s.rstPin = true) :
    step s = .next (State.resetWith s.cfg (s.inputs.drop 1) (s.edges + 1)) := by
  rcases step_cases s with ⟨a, -⟩ | ⟨-, -, e⟩ | ⟨-, a, -⟩
  · simp [hc] at a
  · exact e
  · simp [hr] at a

end Sys2Proof.Machine
end

