-- ==== Sys2Proof/Laws/Run.lean ====
section
/-! SUPPORT. Runs and output traces, one tick at a time and joined. -/

namespace Sys2Proof.Machine

@[simp] theorem State.movedTo_eq (s : State) (n : Nat) (p : Phase) (i : Fin 3) (t : Nat) :
    s.movedTo n p i t = (s.afterEdges n).setSeq p i t := rfl

@[simp] theorem State.seqIs_iff (s : State) (p : Phase) (i : Fin 3) (t : Nat) :
    s.SeqIs p i t ↔ s.phase = p ∧ s.idx = i ∧ s.tmr = t := Iff.rfl

@[simp] theorem sameCounters_iff (s t : State) :
    SameCounters s t ↔ t.counts = s.counts ∧ t.total = s.total ∧ t.mode = s.mode ∧ t.snap = s.snap := Iff.rfl

@[simp] theorem sameDebouncer_iff (s t : State) :
    SameDebouncer s t ↔ t.prev = s.prev ∧ t.cand = s.cand ∧ t.evt = s.evt := Iff.rfl

@[simp] theorem envAdvanced_iff (n : Nat) (s t : State) :
    EnvAdvanced n s t ↔ t.cfg = s.cfg ∧ t.inputs = s.inputs.drop n ∧ t.edges = s.edges + n := Iff.rfl

/-- Setting the timer alone is a write of the sequencer. -/
theorem State.tmr_update_eq (s : State) (t : Nat) : { s with tmr := t } = s.setSeq s.phase s.idx t := rfl

/-- Within the ticks it names, no coming edge has `rst = 1`, and so for the later ones after an edge. -/
theorem State.NoResetFor.afterEdges {s : State} {m n : Nat} (h : s.NoResetFor (m + n)) :
    (s.afterEdges m).NoResetFor n := by
  intro i hi
  rw [State.inputAt_afterEdges]
  exact h _ (Nat.add_lt_add_left hi m)

/-! ### Blocks: what one edge can do, and edges joined -/

theorem Block.tick_of_next {s t : State} (h : step s = .next t) : (Block.running s).tick = .running t := by
  rw [Block.tick, h]

theorem Block.tick_of_fault {s : State} {f : Fault} (h : step s = .fault f) :
    (Block.running s).tick = .faulted f (s.afterEdges 1) := by
  rw [Block.tick, h]

theorem Block.tick_of_refused {s : State} {r : Refusal} (h : step s = .refused r) :
    (Block.running s).tick = .refused r := by
  rw [Block.tick, h]

theorem Block.tick_faulted_of_rst {f : Fault} {s : State} (h : s.rstPin = true) :
    (Block.faulted f s).tick = .running s.takeReset := if_pos h

theorem Block.tick_faulted {f : Fault} {s : State} (h : s.rstPin = false) :
    (Block.faulted f s).tick = .faulted f (s.afterEdges 1) := if_neg (by rw [h]; decide)

@[simp] theorem Block.tick_refused (r : Refusal) : (Block.refused r).tick = .refused r := rfl

@[simp] theorem Block.ticks_zero (b : Block) : b.ticks 0 = b := rfl

theorem Block.ticks_succ (n : Nat) (b : Block) : b.ticks (n + 1) = b.tick.ticks n := rfl

theorem Block.ticks_add (m n : Nat) (b : Block) : b.ticks (m + n) = (b.ticks m).ticks n := by
  induction m generalizing b with
  | zero => rw [Nat.zero_add, Block.ticks_zero]
  | succ m ih => rw [Nat.add_right_comm, Block.ticks_succ, Block.ticks_succ, ih]

@[simp] theorem Block.ticks_refused (n : Nat) (r : Refusal) : (Block.refused r).ticks n = .refused r := by
  induction n with
  | zero => rfl
  | succ n ih => exact ih

/-- A faulted machine stays as it is while `rst` stays 0. -/
theorem Block.ticks_faulted {f : Fault} {s : State} {n : Nat} (h : s.NoResetFor n) :
    (Block.faulted f s).ticks n = .faulted f (s.afterEdges n) := by
  induction n with
  | zero => rfl
  | succ n ih =>
    have hr : (s.afterEdges n).rstPin = false := by
      rw [State.rstPin_eq, State.inputAt_afterEdges]; exact h n (Nat.lt_succ_self n)
    rw [Block.ticks_add, ih fun i hi => h i (Nat.lt_succ_of_lt hi), Block.ticks_succ, Block.tick_faulted hr,
      Block.ticks_zero, State.afterEdges_afterEdges]

/-- A faulted machine takes the first edge with `rst = 1` to the reset state. -/
theorem Block.ticks_faulted_of_rst {f : Fault} {s : State} {n : Nat} (h : s.NoResetFor n)
    (hr : (s.inputAt n).rst = true) : (Block.faulted f s).ticks (n + 1) = .running (s.afterEdges n).takeReset := by
  rw [Block.ticks_add, Block.ticks_faulted h, Block.ticks_succ, Block.ticks_zero]
  exact Block.tick_faulted_of_rst (by rw [State.rstPin_eq, State.inputAt_afterEdges]; exact hr)

@[simp] theorem Block.outcome_eq_next {b : Block} {s : State} : b.outcome = .next s ↔ b = .running s := by
  cases b <;> simp [Block.outcome]

/-! ### Runs -/

theorem runTicks_eq (n : Nat) (s : State) : runTicks n s = ((Block.running s).ticks n).outcome := rfl

theorem runTicks_eq_next {n : Nat} {s t : State} :
    runTicks n s = .next t ↔ (Block.running s).ticks n = .running t := Block.outcome_eq_next

@[simp] theorem runTicks_zero (s : State) : runTicks 0 s = .next s := rfl

theorem runTicks_succ_of_next {n : Nat} {s t : State} (h : step s = .next t) :
    runTicks (n + 1) s = runTicks n t := by
  rw [runTicks, Block.ticks_succ, Block.tick_of_next h, runTicks]

/-- A fault holds the machine while `rst` stays 0. -/
theorem runTicks_succ_of_fault {n : Nat} {s : State} {f : Fault} (h : step s = .fault f)
    (hr : (s.afterEdges 1).NoResetFor n) : runTicks (n + 1) s = .fault f := by
  rw [runTicks, Block.ticks_succ, Block.tick_of_fault h, Block.ticks_faulted hr]; rfl

/-- A faulted machine leaves through the first `rst = 1`. -/
theorem runTicks_succ_of_fault_of_rst {n : Nat} {s : State} {f : Fault} (h : step s = .fault f)
    (hr : (s.afterEdges 1).NoResetFor n) (h1 : ((s.afterEdges 1).inputAt n).rst = true) :
    runTicks (n + 1 + 1) s = .next ((s.afterEdges 1).afterEdges n).takeReset := by
  rw [runTicks, Block.ticks_succ, Block.tick_of_fault h, Block.ticks_faulted_of_rst hr h1]; rfl

theorem runTicks_succ_of_refused {n : Nat} {s : State} {r : Refusal} (h : step s = .refused r) :
    runTicks (n + 1) s = .refused r := by
  rw [runTicks, Block.ticks_succ, Block.tick_of_refused h, Block.ticks_refused]; rfl

/-- A run goes on where its first part ends. -/
theorem runTicks_add_of_next {m n : Nat} {s t : State} (h : runTicks m s = .next t) :
    runTicks (m + n) s = runTicks n t := by
  rw [runTicks, Block.ticks_add, runTicks_eq_next.1 h, runTicks]

/-- One tick of the host's run of any machine, where it ends in a state. -/
theorem coreRun_succ_next (M : Host.Core) {n : Nat} {s t : M.State} (h : M.run (n + 1) s = .next t) :
    ∃ u, M.step s = .next u ∧ M.run n u = .next t := by
  rw [Host.Core.run] at h
  split at h
  · exact ⟨_, ‹_›, h⟩
  · cases h
  · cases h

/-- Where the host's run, which ends at the first fault, answers a state, so does `runTicks`. -/
theorem runTicks_of_coreRun {n : Nat} {s t : State} (h : Host.Core.run Sys2Proof.core n s = .next t) :
    runTicks n s = .next t := by
  induction n generalizing s with
  | zero => cases h; rfl
  | succ n ih =>
    obtain ⟨u, hu, hr⟩ := coreRun_succ_next Sys2Proof.core h
    rw [runTicks_succ_of_next (show step s = .next u from hu)]
    exact ih hr

/-! ### Output traces -/

theorem Block.trace_succ_running (n : Nat) (s : State) :
    (Block.running s).trace (n + 1) = outputs s :: (Block.running s).tick.trace n := rfl

theorem Block.trace_succ_faulted (n : Nat) (f : Fault) (s : State) :
    (Block.faulted f s).trace (n + 1) = faultedOutputs s :: (Block.faulted f s).tick.trace n := rfl

@[simp] theorem Block.trace_refused (n : Nat) (r : Refusal) : (Block.refused r).trace n = [] := by
  cases n <;> rfl

/-- The trace of a block goes on where its first part ends. -/
theorem Block.trace_add (m n : Nat) (b : Block) : b.trace (m + n) = b.trace m ++ (b.ticks m).trace n := by
  induction m generalizing b with
  | zero => rw [Nat.zero_add]; rfl
  | succ m ih =>
    rw [Nat.add_right_comm, Block.ticks_succ]
    cases b with
    | running s => rw [Block.trace_succ_running, Block.trace_succ_running, ih, List.cons_append]
    | faulted f s => rw [Block.trace_succ_faulted, Block.trace_succ_faulted, ih, List.cons_append]
    | refused r => simp

theorem outputTrace_succ_of_next {n : Nat} {s t : State} (h : step s = .next t) :
    outputTrace (n + 1) s = outputs s :: outputTrace n t := by
  rw [outputTrace, Block.trace_succ_running, Block.tick_of_next h, outputTrace]

/-- The trace of a run goes on where its first part ends. -/
theorem outputTrace_add_of_next {m n : Nat} {s t : State} (h : runTicks m s = .next t) :
    outputTrace (m + n) s = outputTrace m s ++ outputTrace n t := by
  rw [outputTrace, Block.trace_add, runTicks_eq_next.1 h, outputTrace, outputTrace]

end Sys2Proof.Machine
end

