-- ==== Sys2Proof/Tests/Slice0.lean ====
section
/-! SUPPORT. The model's own tests: the configuration checks, words written out from 30_encoding.md R79, vectors of
95_test_vectors.md, and for every statement that has hypotheses a state that meets them. -/

namespace Sys2Proof.Tests

open Sys2Proof.Machine

/-! ### Configuration checks (00_scope.md R8) -/

theorem test_cfg_test_wellFormed : Cfg.test.wellFormed = true := by decide
theorem test_cfg_rejects_tStab_zero : ({ Cfg.test with tStab := 0 } : Cfg).wellFormed = false := by decide
theorem test_cfg_rejects_tSettle_zero : ({ Cfg.test with tSettle := 0 } : Cfg).wellFormed = false := by decide
theorem test_cfg_rejects_tOn_zero : ({ Cfg.test with tOn := 0 } : Cfg).wellFormed = false := by decide
theorem test_cfg_rejects_tBlank_zero : ({ Cfg.test with tBlank := 0 } : Cfg).wellFormed = false := by decide
theorem test_cfg_rejects_cntW_nine :
    ({ Cfg.test with cntW := 9 } : Cfg).wellFormed = false ∧ ({ Cfg.test with cntW := 10 } : Cfg).wellFormed = true := by
  decide

/-! ### Words from 30_encoding.md R79 and R70 -/

theorem test_decode_count : decode 0b0011#4 = .instr (.count 3) ∧ decode 0b0110#4 = .instr (.count 6) := by decide
theorem test_decode_reset : decode 0b1000#4 = .instr .reset := by decide
theorem test_decode_toggle : decode 0b1001#4 = .instr .toggle := by decide
theorem test_decode_none : decode 0b1111#4 = .instr .none := by decide
theorem test_decode_reserved :
    decode 0b1010#4 = .reservedKeyCode 0b1010#4 ∧ decode 0b1110#4 = .reservedKeyCode 0b1110#4 := by decide
theorem test_encode :
    encode (.count 5) = 0b0101#4 ∧ encode .reset = 0b1000#4 ∧ encode .toggle = 0b1001#4 ∧ encode .none = 0b1111#4 := by
  decide
theorem test_decodeTableWord :
    decodeTableWord 8 0b00000111 = some (.count 7) ∧ decodeTableWord 8 0b00001010 = none := by decide

/-! ### Small states -/

/-- The outcome is a next state of which `p` holds. -/
def nextHas (o : Host.Outcome State Fault Refusal) (p : State → Bool) : Bool :=
  match o with
  | .next t => p t
  | .fault _ => false
  | .refused _ => false

theorem exists_of_nextHas {o : Host.Outcome State Fault Refusal} {p : State → Bool} (h : nextHas o p = true) :
    ∃ t, o = .next t ∧ p t = true := by
  cases o with
  | next t => exact ⟨t, rfl, h⟩
  | fault f => cases h
  | refused r => cases h

/-- `n` edges with no key and no reset. -/
def idle (n : Nat) : List Input := List.replicate n Input.idle

/-- An edge with the given `col_n` and no reset. -/
def col (c : BitVec 4) : Input := ⟨c, false⟩

/-- An edge with reset. -/
def rstEdge : Input := ⟨0b1111#4, true⟩

/-- The reset state with another sequencer value and the given coming inputs. -/
def seqAt (p : Phase) (i : Fin 3) (t : Nat) (l : List Input) : State :=
  { State.reset with phase := p, idx := i, tmr := t, inputs := l }

/-- A DISPATCH tick of code `w` with counts `c`, their total `t` and mode `m`; the display shows 0, 7, 5. -/
def dispatchAt (w : KeyCode) (c : Vector Nat 8) (t : Nat) (m : Mode) : State :=
  { seqAt .dispatch 0 0 (idle 1) with evt := w, prev := w, counts := c, total := t, mode := m, snap := #v[0, 7, 5] }

/-- A loop start with the given inputs. -/
def loopAt (l : List Input) : State := seqAt .scanA 0 1 l

/-- Key 7 at the DISPATCH tick with its count full. -/
def full : State := dispatchAt 7#4 #v[0, 0, 0, 0, 0, 0, 0, 65535] 65535 .rawCount

/-- Inputs of an iteration that accepts key 3: row 0 column 3 low at every edge. -/
def key3 (n : Nat) : List Input := List.replicate n (col 0b0111#4)

/-- Inputs of an iteration that accepts key 7: row 1 column 3 low at the two sampling edges of row 1. -/
def key7 : List Input := idle 3 ++ [col 0b0111#4] ++ idle 7 ++ [col 0b0111#4] ++ idle 13

/-! ### One step of each operation: vectors V32, V39d, V37, V38, V39a, V36 of 95_test_vectors.md -/

theorem test_count_percentage :
    nextHas (step (dispatchAt 3#4 #v[9, 0, 0, 41, 0, 0, 0, 0] 50 .percentage)) (fun t =>
      t.counts[3] = 42 ∧ t.total = 51 ∧ t.snap = #v[0, 8, 2]) = true := by decide
theorem test_count_overflow : step full = .fault (.counterOverflow 7) := by rfl
theorem test_reset :
    nextHas (step (dispatchAt 8#4 #v[3, 1, 0, 0, 0, 0, 0, 0] 4 .percentage)) (fun t =>
      t.counts = #v[0, 0, 0, 0, 0, 0, 0, 0] ∧ t.total = 0 ∧ t.mode = .percentage ∧ t.snap = #v[0, 0, 0]) = true := by
  decide
theorem test_toggle_to_percentage :
    nextHas (step (dispatchAt 9#4 #v[42, 42, 0, 0, 0, 0, 0, 0] 84 .rawCount)) (fun t =>
      t.counts[0] = 42 ∧ t.total = 84 ∧ t.mode = .percentage ∧ t.snap = #v[0, 5, 0]) = true := by decide
theorem test_toggle_to_rawCount :
    nextHas (step (dispatchAt 9#4 #v[3, 1, 0, 0, 0, 0, 0, 0] 4 .percentage)) (fun t =>
      t.mode = .rawCount ∧ t.snap = #v[0, 0, 3]) = true := by decide
theorem test_none :
    nextHas (step (dispatchAt 15#4 #v[3, 1, 0, 0, 0, 0, 0, 0] 4 .percentage)) (fun t =>
      t.counts = #v[3, 1, 0, 0, 0, 0, 0, 0] ∧ t.mode = .percentage ∧ t.snap = #v[0, 7, 5] ∧ t.phase = .showDigit) =
      true := by decide

/-! ### Arithmetic and row decode: 42_counter_dispatch.md R124, vectors V1 to V12 of 95_test_vectors.md -/

theorem test_pct :
    pct .nearestHalfUp 1 8 = 13 ∧ pct .truncate 1 8 = 12 ∧ pct .nearestHalfUp 2 3 = 67 ∧ pct .truncate 2 3 = 66 ∧
    pct .nearestHalfUp 1 3 = 33 := by decide
theorem test_digits : digits 42 = #v[0, 4, 2] ∧ digits 999 = #v[9, 9, 9] ∧ digits 1500 = #v[9, 9, 9] := by decide
theorem test_rowdecode_row0 :
    rowdecode 0 0b1111#4 = noKey ∧ rowdecode 0 0b1110#4 = 0#4 ∧ rowdecode 0 0b0111#4 = 3#4 ∧
    rowdecode 0 0b0101#4 = 1#4 := by decide
theorem test_rowdecode_row2 :
    rowdecode 2 0b1110#4 = 8#4 ∧ rowdecode 2 0b1101#4 = 9#4 ∧ rowdecode 2 0b1011#4 = noKey ∧
    rowdecode 2 0b0011#4 = noKey ∧ rowdecode 2 0b0001#4 = 9#4 := by decide

/-! ### States that meet the hypotheses of the statements -/

theorem test_witness_DecodeAndEncodeAgree :
    (Instr.count 7).wellFormed = true ∧ decode 0b0111#4 = .instr (.count 7) := by decide

theorem test_witness_OperationMapOnWords :
    (10 ≤ (10#4).toNat ∧ (10#4).toNat ≤ 14) ∧ (10 ≤ (14#4).toNat ∧ (14#4).toNat ≤ 14) := by decide

theorem test_witness_DispatchTickRunsDecodedOperation :
    full.Running ∧ full.phase = .dispatch ∧ decode full.evt = .instr (.count 7) ∧
      (Instr.count 7).wellFormed = true := by decide

theorem test_witness_PlacedWordIsRunNext :
    State.reset.cfg.wellFormed = true ∧ decodeTableWord 4 0b1001 = some .toggle := by decide

/-- Both ends of the reserved range; a well-formed configuration for the second clause. -/
theorem test_witness_ReservedCodeFaultsAndIsUnreachable :
    (∀ w ∈ [10#4, 14#4], (dispatchAt w (Vector.replicate 8 0) 0 .rawCount).Running ∧
      (dispatchAt w (Vector.replicate 8 0) 0 .rawCount).phase = .dispatch ∧
      10 ≤ (dispatchAt w (Vector.replicate 8 0) 0 .rawCount).evt.toNat ∧
      (dispatchAt w (Vector.replicate 8 0) 0 .rawCount).evt.toNat ≤ 14) ∧ Cfg.test.wellFormed = true := by decide

/-- The last count that fits, `2^16 - 2`, and the one that does not. -/
theorem test_witness_CountIncrementsAndRecomputes :
    (dispatchAt 7#4 #v[0, 0, 0, 0, 0, 0, 0, 65534] 65534 .rawCount).counts[7] + 1 < 2 ^ Cfg.test.cntW ∧
    full.counts[7] = 2 ^ full.cfg.cntW - 1 := by decide

theorem test_witness_ToggleFlipsModeAndShowsKeyZero :
    Mode.percentage ≠ State.reset.mode ∧ Mode.rawCount ≠ Mode.percentage := by decide

/-- No reset at the faulting edge, at it and the next one, a reset at the faulting edge, and one at a later edge. -/
theorem test_witness_OverflowFaultsAndOnlyRstLeadsOn :
    (full.cfg.wellFormed = true ∧ full.phase = .dispatch ∧ full.evt.toNat = (7 : Fin 8).val ∧
      full.counts[(7 : Fin 8)] = 2 ^ full.cfg.cntW - 1 ∧ full.rstPin = false ∧ full.NoResetFor (0 + 1)) ∧
    { full with inputs := idle 2 }.NoResetFor (1 + 1) ∧
    ({ full with inputs := [rstEdge] }.NoResetFor 0 ∧ ({ full with inputs := [rstEdge] }.inputAt 0).rst = true) ∧
    ({ full with inputs := [Input.idle, rstEdge] }.NoResetFor 1 ∧
      ({ full with inputs := [Input.idle, rstEdge] }.inputAt 1).rst = true) := by decide

/-- 60_exceptions.md R161: a faulted machine stays faulted while `rst` is 0, and a later `rst` gives the reset state. -/
theorem test_faulted_machine_leaves_through_later_rst :
    (Block.running { full with inputs := [Input.idle, Input.idle, rstEdge] }).ticks 2 =
      .faulted (.counterOverflow 7) { full with inputs := [rstEdge], edges := 2 } ∧
    (Block.running { full with inputs := [Input.idle, Input.idle, rstEdge] }).ticks 3 =
      .running (State.resetWith Cfg.test [] 3) := ⟨rfl, rfl⟩

/-- A tick that is no DISPATCH tick, then a `COUNT`, a `RESET` and a `TOGGLE` that change what the clauses name. -/
theorem test_witness_CounterStateWrittenOnlyByDispatch :
    (loopAt (idle 1)).Running ∧ nextHas (step (loopAt (idle 1))) (fun _ => true) = true ∧
    (∀ w ∈ [3#4, 8#4, 9#4], (dispatchAt w #v[1, 0, 0, 2, 0, 0, 0, 0] 3 .rawCount).Running) ∧
    (∀ w ∈ [3#4, 8#4], nextHas (step (dispatchAt w #v[1, 0, 0, 2, 0, 0, 0, 0] 3 .rawCount)) (fun t =>
      t.counts[3] ≠ 2 ∧ t.total ≠ 3 ∧ t.snap ≠ #v[0, 7, 5]) = true) ∧
    nextHas (step (dispatchAt 9#4 #v[1, 0, 0, 2, 0, 0, 0, 0] 3 .rawCount)) (fun t =>
      t.mode ≠ .rawCount ∧ t.snap ≠ #v[0, 7, 5]) = true := by decide

/-- Key 3 was accepted: the end of a scan with no key writes `prev` and `evt`; a new key 1 writes `cand`; a confirmed
key 1 writes `prev` and `evt`. -/
theorem test_witness_DebouncerRegistersWrittenOnlyAtScanEnds :
    let a : State := { seqAt .scanA 2 0 (idle 1) with prev := 3#4, evt := 3#4 }
    let b : State := { seqAt .scanA 0 0 [col 0b1101#4] with prev := 3#4 }
    let c : State := { seqAt .scanB 0 0 [col 0b1101#4] with prev := 3#4, cand := 1#4 }
    (a.Running ∧ nextHas (step a) (fun t => t.prev ≠ a.prev ∧ t.evt ≠ a.evt) = true) ∧
    (b.Running ∧ nextHas (step b) (fun t => t.cand ≠ b.cand) = true) ∧
    (c.Running ∧ nextHas (step c) (fun t => t.prev ≠ c.prev ∧ t.evt ≠ c.evt) = true) := by decide

theorem test_witness_PercentageRoundsAndStaysInRange : (0 < 1) ∧ full.Inv ∧ 0 < full.total := by decide

theorem test_witness_ValueToShow : 0 < 1 ∧ value .truncate .percentage 0 0 = 0 := by decide

theorem test_witness_DigitsClampAndSplit : 999 ≤ 999 ∧ digits 998 ≠ #v[9, 9, 9] := by decide

theorem test_witness_SamplingTickOfSweep :
    (seqAt .scanA 1 0 (idle 1)).Running ∧ (seqAt .scanA 1 0 (idle 1)).isSampling = true ∧
    (rowdecode 1 (seqAt .scanA 1 0 (idle 1)).pinRead = noKey ∧ (1 : Fin 3) < 2) ∧
    ¬(rowdecode 2 (seqAt .scanB 2 0 (idle 1)).pinRead = noKey ∧ (2 : Fin 3) < 2) ∧
    ¬(rowdecode 0 (seqAt .scanA 0 0 [col 0#4]).pinRead = noKey ∧ (0 : Fin 3) < 2) := by decide

/-- A sweep that finds nothing, and one that ends at each row. -/
theorem test_witness_SweepIsFunctionOfItsSamples :
    (∀ l ∈ [idle 6, key3 2 ++ idle 4, key7, idle 5 ++ [col 0b1101#4]],
      (loopAt l).cfg.wellFormed = true ∧ (loopAt l).phase = .scanA ∧ (loopAt l).idx = 0 ∧ (loopAt l).tmr = (loopAt l).cfg.tStab - 1 ∧
      (loopAt l).NoResetFor (sweepRows (loopAt l).firstSamples * (loopAt l).cfg.tStab)) ∧
    sweep (loopAt (idle 6)).firstSamples = noKey ∧
    (sweep (loopAt (key3 2 ++ idle 4)).firstSamples).toNat / 4 = (0 : Fin 3).val ∧
    (sweep (loopAt key7).firstSamples).toNat / 4 = (1 : Fin 3).val ∧
    (sweep (loopAt (idle 5 ++ [col 0b1101#4])).firstSamples).toNat / 4 = (2 : Fin 3).val := by decide

theorem test_witness_UnpopulatedPositionsInvisible :
    0b0111#4 &&& 0b0011#4 = 0b1011#4 &&& 0b0011#4 ∧ 0b0011#4 &&& 0b0011#4 = 0b0011#4 := by decide

theorem test_witness_ColumnsReadOnlyAtSamplingEdges :
    (seqAt .scanA 0 1 []).isSampling = false ∧ (seqAt .settle 0 0 []).isSampling = false ∧ full.isSampling = false := by
  decide

theorem test_witness_FirstScanNoneClearsPrev :
    let s := seqAt .scanA 2 0 (idle 1)
    s.Running ∧ s.phase = .scanA ∧ s.tmr = 0 ∧ s.idx = 2 ∧ rowdecode s.idx s.pinRead = noKey := by decide

theorem test_witness_FirstScanHeldKeyIsDropped :
    let s : State := { seqAt .scanA 0 0 [col 0b0111#4] with prev := 3#4 }
    s.Running ∧ s.phase = .scanA ∧ s.tmr = 0 ∧ rowdecode s.idx s.pinRead ≠ noKey ∧
      rowdecode s.idx s.pinRead = s.prev := by decide

theorem test_witness_FirstScanNewKeyStartsSettle :
    let s := seqAt .scanA 0 0 [col 0b0111#4]
    s.Running ∧ s.phase = .scanA ∧ s.tmr = 0 ∧ rowdecode s.idx s.pinRead ≠ noKey ∧
      rowdecode s.idx s.pinRead ≠ s.prev := by decide

/-- A match, a mismatch, and a sweep to the end that found nothing. -/
theorem test_witness_ReconfirmingScanAcceptsOnlyTheSameKey :
    (∀ l ∈ [col 0b0111#4, col 0b1110#4],
      let s : State := { seqAt .scanB 0 0 [l] with cand := 3#4 }
      s.Running ∧ s.phase = .scanB ∧ s.tmr = 0 ∧ ¬(rowdecode s.idx s.pinRead = noKey ∧ s.idx < 2)) ∧
    rowdecode 0 0b0111#4 = 3#4 ∧ rowdecode 0 0b1110#4 ≠ 3#4 ∧
    (let s : State := { seqAt .scanB 2 0 (idle 1) with cand := 3#4 }
     s.Running ∧ s.Inv ∧ rowdecode s.idx s.pinRead = noKey) := by decide

theorem test_witness_SettlePhase :
    (seqAt .settle 0 0 (idle 1)).Running ∧ (seqAt .settle 0 1 (idle 1)).Running ∧
    (let s := seqAt .settle 0 3 (idle 4)
     s.cfg.wellFormed = true ∧ s.phase = .settle ∧ s.tmr = s.cfg.tSettle - 1 ∧ s.NoResetFor s.cfg.tSettle) := by
  decide

/-- Two scans that agree, and a second scan that sees nothing. -/
theorem test_witness_ReconfirmationDecidesTheEvent :
    (∀ l ∈ [key3 21, key3 2 ++ idle 23], (loopAt l).WholeIteration ∧
      (loopAt l).reconfirms (loopAt l).firstSamples = true ∧
      nextHas (runTicks ((loopAt l).iterationTicks (loopAt l).firstSamples (loopAt l).secondSamples) (loopAt l))
        (fun _ => true) = true) ∧
    sweep (loopAt (key3 21)).secondSamples = sweep (loopAt (key3 21)).firstSamples ∧
    sweep (loopAt (key3 2 ++ idle 23)).secondSamples ≠ sweep (loopAt (key3 2 ++ idle 23)).firstSamples := by decide

/-- Key 3 held for two iterations of 15 ticks, and key 9 (row 2) for one of 19. -/
theorem test_witness_HeldKeyProducesNoFurtherEvent :
    (let s : State := { loopAt (key3 30) with prev := 3#4 }
     s.cfg.wellFormed = true ∧ s.atLoopStart = true ∧ s.prev.toNat ≤ 9 ∧ s.prev.toNat / 4 = (0 : Fin 3).val ∧
      s.NoResetFor (2 * 15) ∧ ∀ j < 2, sweep (s.samplesAt (j * 15)) = s.prev) ∧
    (let s : State := { loopAt (idle 5 ++ [col 0b1101#4] ++ idle 13) with prev := 9#4 }
     s.cfg.wellFormed = true ∧ s.atLoopStart = true ∧ s.prev.toNat ≤ 9 ∧ s.prev.toNat / 4 = (2 : Fin 3).val ∧
      s.NoResetFor (1 * 19) ∧ ∀ j < 1, sweep (s.samplesAt (j * 19)) = s.prev) := by decide

theorem test_witness_OutputFunction :
    State.reset.phase = .scanA ∧ full.phase = .dispatch ∧ (seqAt .showDigit 1 2 []).phase = .showDigit ∧
    State.reset.cfg.segLines = .seven ∧ ({ Cfg.test with segLines := .eight } : Cfg).segLines = .eight := by decide

theorem test_witness_KeypadAndDisplayNeverActiveTogether :
    State.reset.rowN ≠ 0b111#3 ∧ (seqAt .showDigit 1 2 []).digSel ≠ 0#3 ∧ (seqAt .showDigit 1 2 []).seg ≠ 0#7 := by
  decide

theorem test_witness_ShowPhase :
    (seqAt .showDigit 0 0 (idle 1)).Running ∧ (seqAt .showDigit 0 1 (idle 1)).Running ∧
    (let s := seqAt .showDigit 2 2 (idle 3)
     s.cfg.wellFormed = true ∧ s.phase = .showDigit ∧ s.tmr = s.cfg.tOn - 1 ∧ s.NoResetFor s.cfg.tOn) := by decide

theorem test_witness_BlankPhase :
    (seqAt .blank 0 1 (idle 1)).Running ∧ ((seqAt .blank 1 0 (idle 1)).Running ∧ (1 : Fin 3) < 2) ∧
    (let s := seqAt .blank 2 0 (idle 1)
     s.Running ∧ s.cfg.wellFormed = true ∧ s.phase = .blank ∧ s.idx = 2 ∧ s.tmr = s.cfg.tBlank - 1 ∧
      s.NoResetFor s.cfg.tBlank) := by decide

theorem test_witness_RefreshPassShowsTheSnapshot :
    let s := seqAt .showDigit 0 2 (idle 12)
    s.cfg.wellFormed = true ∧ s.SeqIs .showDigit 0 (s.cfg.tOn - 1) ∧
      s.NoResetFor (3 * (s.cfg.tOn + s.cfg.tBlank)) := by decide

theorem test_witness_WaitingTicksOnlyCountDown :
    let s := seqAt .showDigit 0 2 (idle 3)
    s.Running ∧ s.phase ≠ .dispatch ∧ 0 < s.tmr ∧ s.cfg.wellFormed = true ∧ s.NoResetFor (s.tmr + 1) := by decide

/-- A waiting tick, a reset tick and the tick that ends each phase. -/
theorem test_witness_ControlTransfers :
    ∀ s ∈ [loopAt (idle 1), loopAt [⟨0b1111#4, true⟩], seqAt .scanA 0 0 (idle 1), seqAt .scanA 2 0 (idle 1),
        seqAt .scanA 0 0 [col 0b0111#4], { seqAt .scanA 0 0 [col 0b0111#4] with prev := 3#4 },
        seqAt .settle 0 0 (idle 1), seqAt .scanB 1 0 (idle 1), seqAt .scanB 2 0 (idle 1), seqAt .dispatch 0 0 (idle 1),
        seqAt .showDigit 1 0 (idle 1), seqAt .blank 1 0 (idle 1), seqAt .blank 2 0 (idle 1)],
      s.cfg.wellFormed = true ∧ s.SeqLegal ∧ nextHas (step s) (fun _ => true) = true := by decide

theorem test_witness_DispatchTickFrame :
    let s := dispatchAt 3#4 (Vector.replicate 8 0) 0 .rawCount
    s.phase = .dispatch ∧ s.Running ∧ nextHas (step s) (fun _ => true) = true := by decide

/-- From the reset state, and from a DISPATCH tick whose count is full. -/
theorem test_witness_ProgressToTheNextLoopStart :
    ((loopAt (idle 29)).Inv ∧ (loopAt (idle 29)).NoResetFor 29) ∧
    ({ full with inputs := idle 29 }.Inv ∧ { full with inputs := idle 29 }.NoResetFor 29) :=
  ⟨⟨by decide, by decide⟩, by decide, by decide⟩

/-- An iteration with no key, one that counts key 3, and one whose count overflows. -/
theorem test_witness_IterationFunctionIsRefinedByTicks :
    (loopAt (idle 19)).WholeIteration ∧ (loopAt (key3 21)).WholeIteration ∧
    (let s : State := { loopAt (key3 21) with counts := #v[0, 0, 0, 65535, 0, 0, 0, 0], total := 65535 }
     s.WholeIteration) ∧
    nextHas ((loopAt (key3 21)).iterate (loopAt (key3 21)).firstSamples (loopAt (key3 21)).secondSamples)
      (fun t => t.counts[3] = 1) = true := by decide

theorem test_iteration_overflows :
    { loopAt (key3 21) with counts := #v[0, 0, 0, 65535, 0, 0, 0, 0], total := 65535 }.iterate
      (loopAt (key3 21)).firstSamples (loopAt (key3 21)).secondSamples = .fault (.counterOverflow 3) := by rfl

theorem test_witness_IterationOutputsShowTheNewSnapshot :
    (loopAt key7).WholeIteration ∧
    nextHas ((loopAt key7).iterate (loopAt key7).firstSamples (loopAt key7).secondSamples)
      (fun t => t.counts[7] = 1 ∧ t.snap = #v[0, 0, 1]) = true := by decide

theorem test_witness_EveryStepKeepsInv :
    (loopAt (idle 1)).Inv ∧ nextHas (step (loopAt (idle 1))) (fun _ => true) = true ∧
    (let s := dispatchAt 3#4 #v[1, 0, 0, 2, 0, 0, 0, 0] 3 .percentage
     s.Inv ∧ nextHas (step s) (fun _ => true) = true) := ⟨by decide, by decide, by decide, by decide⟩

theorem test_witness_ResetStateHasInv : Cfg.test.wellFormed = true ∧ State.reset.Inv := ⟨by decide, by decide⟩

theorem test_witness_ReachableStatesAreLegal :
    Cfg.test.wellFormed = true ∧
    nextHas (runTicks 3 (State.resetWith Cfg.test (idle 3) 0)) (fun t => t.idx = 1) = true := by decide

/-- The invariant holds at the overflow, and with one count less the same tick has a next state. -/
theorem test_witness_OnlyCounterOverflowStopsTheBlock :
    full.Inv ∧ (dispatchAt 7#4 #v[0, 0, 0, 0, 0, 0, 0, 65534] 65534 .rawCount).Inv ∧
    nextHas (step (dispatchAt 7#4 #v[0, 0, 0, 0, 0, 0, 0, 65534] 65534 .rawCount)) (fun t => t.counts[7] = 65535) =
      true := ⟨by decide, by decide, by decide⟩

theorem test_witness_RstGivesTheResetState :
    let s : State := { full with inputs := List.replicate 3 ⟨0b1111#4, true⟩ }
    s.cfg.wellFormed = true ∧ (∀ i < 2 + 1, (s.inputAt i).rst = true) ∧ ∀ i < 0 + 1, (s.inputAt i).rst = true := by
  decide

/-- Key 3, found in row 0, and key 7, found in row 1. -/
theorem test_witness_KeyHeldAtResetCountsInTheFirstIteration :
    (let s := State.resetWith Cfg.test (key3 21) 0
     s.WholeIteration ∧ (sweep s.firstSamples).toNat = (3 : Fin 8).val ∧
      sweep s.secondSamples = sweep s.firstSamples) ∧
    (let s := State.resetWith Cfg.test key7 0
     s.WholeIteration ∧ (sweep s.firstSamples).toNat = (7 : Fin 8).val ∧
      sweep s.secondSamples = sweep s.firstSamples) := by decide

theorem test_witness_ConfigOutsideConstraintsIsRefused :
    step { State.reset with cfg := { Cfg.test with cntW := 9 } } = .refused .configOutsideConstraints ∧
    step { State.reset with cfg := { Cfg.test with tStab := 0 } } = .refused .configOutsideConstraints := ⟨rfl, rfl⟩

theorem test_witness_StepKeepsConfigurationAndTakesOneInput :
    nextHas (step (loopAt (idle 2))) (fun t => t.edges = 1 ∧ t.inputs = idle 1) = true := by decide

theorem test_witness_IdealMatrixColumns :
    idealColumns 0b110#3 [3] = 0b0111#4 ∧ idealColumns 0b101#3 [3] = 0b1111#4 ∧ idealColumns 0b111#3 [3] = 0b1111#4 := by
  decide

end Sys2Proof.Tests
end

section
/-! PROOF. The block's scope (00_scope.md R8, R12): which ticks have no next state. A tick of the model is a refusal, a fault
or a next state; each kind is characterised once, from the operations up to the step. -/

namespace Sys2Proof.Machine

/-! ### Configurations outside their constraints -/

theorem wellFormed_eq_false_iff (c : Cfg) :
    c.wellFormed = false ↔ c.tStab = 0 ∨ c.tSettle = 0 ∨ c.tOn = 0 ∨ c.tBlank = 0 ∨ c.cntW < 10 := by
  rw [Cfg.wellFormed, ← Bool.not_eq_true]
  simp only [Bool.and_eq_true, decide_eq_true_eq]
  omega

/-! ### Codes that the dispatcher tells apart -/

theorem decode_eq_count_iff (w : KeyCode) (k : Fin 8) : decode w = .instr (.count k) ↔ w.toNat = k.val := by
  revert w k; decide

theorem decode_eq_reserved_iff (w : KeyCode) :
    decode w = .reservedKeyCode w ↔ 10 ≤ w.toNat ∧ w.toNat ≤ 14 := by
  revert w; decide

/-- A code that the block produces is an operation's (10_state.md R28, 60_exceptions.md R162). -/
theorem decode_ne_reserved_of_legalKey {w : KeyCode} (h : legalKey w) : decode w ≠ .reservedKeyCode w := by
  rw [Ne, decode_eq_reserved_iff]
  rcases h with hkey | rfl
  · omega
  · decide

/-! ### Outcomes, from the operations up to the step -/

/-- An operation completes, or it is a `COUNT` whose increment does not fit (42_counter_dispatch.md R119). -/
theorem exec_completes_or_overflows (i : Instr) (s : State) :
    (∃ t, exec i s = .next t) ∨
    ∃ k, i = .count k ∧ 2 ^ s.cfg.cntW ≤ s.counts[k] + 1 ∧ exec i s = .fault (.counterOverflow k) := by
  rcases exec_cases i s with h | ⟨_, -, -, e⟩ | ⟨-, e⟩ | ⟨-, e⟩ | ⟨-, e⟩
  · exact .inr h
  all_goals exact .inl ⟨_, e⟩

/-- A tick of the phase arms has a next state, or it is a `DISPATCH` that overflows a count or finds a reserved code. -/
theorem State.runTick_completes_or_faults (s : State) (c : BitVec 4) :
    (∃ t, s.runTick c = .next t) ∨
    (s.phase = .dispatch ∧ ∃ k : Fin 8, s.evt.toNat = k.val ∧ 2 ^ s.cfg.cntW ≤ s.counts[k] + 1 ∧
      s.runTick c = .fault (.counterOverflow k)) ∨
    (s.phase = .dispatch ∧ decode s.evt = .reservedKeyCode s.evt ∧ s.runTick c = .fault .invalidKeyCode) := by
  rw [State.runTick_eq]
  cases s.phase with
  | dispatch =>
    rcases s.dispatchTick_cases with ⟨i, hdec, e⟩ | hreserved
    · rcases exec_completes_or_overflows i s with ⟨t, ht⟩ | ⟨k, rfl, hfull, hfault⟩
      · exact .inl ⟨t, e.trans ht⟩
      · exact .inr (.inl ⟨rfl, k, (decode_eq_count_iff s.evt k).1 hdec, hfull, e.trans hfault⟩)
    · exact .inr (.inr ⟨rfl, hreserved⟩)
  | scanA | settle | scanB | showDigit | blank => exact .inl ⟨_, rfl⟩

theorem State.runTick_ne_refused (s : State) (c : BitVec 4) (r : Refusal) : s.runTick c ≠ .refused r := by
  rcases s.runTick_completes_or_faults c with ⟨t, e⟩ | ⟨-, k, -, -, e⟩ | ⟨-, -, e⟩ <;> simp [e]

/-- The one refusal of the model and its condition (93_implementation_defined.md U8). -/
theorem step_eq_refused_iff (s : State) (r : Refusal) :
    step s = .refused r ↔ s.cfg.wellFormed = false ∧ r = .configOutsideConstraints := by
  rcases step_cases s with ⟨hcfg, e⟩ | ⟨hcfg, -, e⟩ | ⟨hcfg, -, e⟩
  · simp [hcfg, e, eq_comm]
  · simp [hcfg, e]
  · simp [hcfg, e, State.runTick_ne_refused]

/-- A step of a well-formed configuration has a next state, or it is the `DISPATCH` tick of a count that is full or of a
reserved code, with `rst = 0` (44_sequencer.md R142, R143). -/
theorem step_completes_or_faults {s : State} (hcfg : s.cfg.wellFormed = true) :
    (∃ t, step s = .next t) ∨
    (s.rstPin = false ∧ s.phase = .dispatch ∧
      ((∃ k : Fin 8, s.evt.toNat = k.val ∧ 2 ^ s.cfg.cntW ≤ s.counts[k] + 1 ∧
          step s = .fault (.counterOverflow k)) ∨
        (decode s.evt = .reservedKeyCode s.evt ∧ step s = .fault .invalidKeyCode))) := by
  cases hrst : s.rstPin with
  | true => exact .inl ⟨_, step_of_rst hcfg hrst⟩
  | false =>
    rw [step_of_running hcfg hrst]
    rcases (s.afterEdges 1).runTick_completes_or_faults s.pinRead with h | ⟨hphase, h⟩ | ⟨hphase, h⟩
    · exact .inl h
    · exact .inr ⟨rfl, hphase, .inl h⟩
    · exact .inr ⟨rfl, hphase, .inr h⟩

/-! ### The obligations of the scope -/

/-- Settles O47: the refusal is exactly that of a configuration that is not well formed. -/
theorem configOutsideConstraintsIsRefused : Obligations.ConfigOutsideConstraintsIsRefused := by
  intro s
  rw [step_eq_refused_iff, wellFormed_eq_false_iff]
  exact (and_iff_left rfl).symm

/-- Settles O43: the invariant's legal `evt` excludes the reserved codes, and its bound on the counts makes a count whose
increment does not fit the maximum itself. -/
theorem onlyCounterOverflowStopsTheBlock : Obligations.OnlyCounterOverflowStopsTheBlock := by
  rintro s ⟨hcfg, ⟨hcounts, -⟩, -, ⟨-, -, hevt⟩, -⟩
  rcases step_completes_or_faults hcfg with hnext | ⟨hrst, hphase, ⟨k, hk, hfull, hfault⟩ | ⟨hreserved, -⟩⟩
  · exact .inl hnext
  · have hmax : s.counts[k] = 2 ^ s.cfg.cntW - 1 := by
      have hfits := hcounts k
      omega
    exact .inr ⟨k, hfault, hrst, hphase, hk, hmax⟩
  · exact absurd hreserved (decode_ne_reserved_of_legalKey hevt)

end Sys2Proof.Machine
end

section
/-! PROOF. What one tick can do, said once (44_sequencer.md R142): the arms of the tick function as a relation, each with the
condition under which it is taken. The facts about where a register is written, and the invariants, follow from it by cases on
the arm. -/

namespace Sys2Proof.Machine

/-- The arms of a tick with `rst = 0` and `col_n = c` at its ending edge, from `s` to the next state. -/
inductive TickArm (s : State) (c : BitVec 4) : State → Prop where
  /-- a waiting tick (44_sequencer.md R145) -/
  | wait (hphase : s.phase ≠ .dispatch) (htmr : 0 < s.tmr) : TickArm s c s.countDown
  /-- a row with no key, and rows left (40_input_scanner.md R92) -/
  | nextRow (hphase : s.phase = .scanA ∨ s.phase = .scanB) (htmr : s.tmr = 0)
      (hkey : rowdecode s.idx c = noKey) (hidx : s.idx < 2) :
      TickArm s c (s.setSeq s.phase (s.idx + 1) (s.cfg.tStab - 1))
  /-- the first scan ends with `None` (41_debouncer.md R101) -/
  | scanNone (hphase : s.phase = .scanA) (htmr : s.tmr = 0) (hkey : rowdecode s.idx c = noKey) (hidx : s.idx = 2) :
      TickArm s c (((s.setPrev noKey).setEvt noKey).setSeq .dispatch 0 0)
  /-- the first scan ends with the held key (41_debouncer.md R102) -/
  | scanHeld (hphase : s.phase = .scanA) (htmr : s.tmr = 0) (hkey : rowdecode s.idx c ≠ noKey)
      (hprev : rowdecode s.idx c = s.prev) : TickArm s c ((s.setEvt noKey).setSeq .dispatch 0 0)
  /-- the first scan ends with a new key (41_debouncer.md R103) -/
  | scanNew (hphase : s.phase = .scanA) (htmr : s.tmr = 0) (hkey : rowdecode s.idx c ≠ noKey)
      (hprev : rowdecode s.idx c ≠ s.prev) :
      TickArm s c ((s.setCand (rowdecode s.idx c)).setSeq .settle 0 (s.cfg.tSettle - 1))
  /-- the settle delay ends (41_debouncer.md R105) -/
  | settled (hphase : s.phase = .settle) (htmr : s.tmr = 0) : TickArm s c (s.setSeq .scanB 0 (s.cfg.tStab - 1))
  /-- the reconfirming scan matches (41_debouncer.md R104) -/
  | confirmed (hphase : s.phase = .scanB) (htmr : s.tmr = 0) (hend : ¬(rowdecode s.idx c = noKey ∧ s.idx < 2))
      (hcand : rowdecode s.idx c = s.cand) :
      TickArm s c (((s.setPrev s.cand).setEvt s.cand).setSeq .dispatch 0 0)
  /-- the reconfirming scan does not match (41_debouncer.md R104) -/
  | rejected (hphase : s.phase = .scanB) (htmr : s.tmr = 0) (hend : ¬(rowdecode s.idx c = noKey ∧ s.idx < 2))
      (hcand : rowdecode s.idx c ≠ s.cand) : TickArm s c ((s.setEvt noKey).setSeq .dispatch 0 0)
  /-- `COUNT k` (42_counter_dispatch.md R111) -/
  | count (k : Fin 8) (hphase : s.phase = .dispatch) (hevt : s.evt.toNat = k.val)
      (hfits : s.counts[k] + 1 < 2 ^ s.cfg.cntW) :
      TickArm s c (((s.countKey k).recompute k).setSeq .showDigit 0 (s.cfg.tOn - 1))
  /-- `RESET` (42_counter_dispatch.md R112) -/
  | clear (hphase : s.phase = .dispatch) (hevt : s.evt = 8#4) :
      TickArm s c (s.clearCounters.setSeq .showDigit 0 (s.cfg.tOn - 1))
  /-- `TOGGLE` (42_counter_dispatch.md R113) -/
  | toggle (hphase : s.phase = .dispatch) (hevt : s.evt = 9#4) :
      TickArm s c ((s.flipMode.recompute 0).setSeq .showDigit 0 (s.cfg.tOn - 1))
  /-- `NONE` (42_counter_dispatch.md R114) -/
  | noEvent (hphase : s.phase = .dispatch) (hevt : s.evt = noKey) :
      TickArm s c (s.setSeq .showDigit 0 (s.cfg.tOn - 1))
  /-- a digit was lit for its time (43_display_multiplexer.md R131) -/
  | shown (hphase : s.phase = .showDigit) (htmr : s.tmr = 0) : TickArm s c (s.setSeq .blank s.idx (s.cfg.tBlank - 1))
  /-- the next digit of the pass (43_display_multiplexer.md R132) -/
  | nextDigit (hphase : s.phase = .blank) (htmr : s.tmr = 0) (hidx : s.idx < 2) :
      TickArm s c (s.setSeq .showDigit (s.idx + 1) (s.cfg.tOn - 1))
  /-- the pass ends and the next iteration begins (43_display_multiplexer.md R132) -/
  | passEnds (hphase : s.phase = .blank) (htmr : s.tmr = 0) (hidx : s.idx = 2) :
      TickArm s c (s.setSeq .scanA 0 (s.cfg.tStab - 1))

/-! ### Each phase's tick takes one of the arms -/

theorem idx_eq_two_of_not_lt {i : Fin 3} (h : ¬i < 2) : i = 2 := by omega

theorem State.scanATick_arm {s : State} (c : BitVec 4) (hphase : s.phase = .scanA) :
    TickArm s c (s.scanATick c) := by
  rcases s.scanATick_cases c with ⟨htmr, e⟩ | ⟨htmr, hkey, hidx, e⟩ | ⟨htmr, hend, e⟩ <;> rw [e]
  · exact .wait (by simp [hphase]) htmr
  · exact .nextRow (.inl hphase) htmr hkey hidx
  · rcases s.firstScanEnds_cases (rowdecode s.idx c) with ⟨hkey, e⟩ | ⟨hkey, hprev, e⟩ | ⟨hkey, hprev, e⟩ <;> rw [e]
    · exact .scanNone hphase htmr hkey (idx_eq_two_of_not_lt fun hidx => hend ⟨hkey, hidx⟩)
    · exact .scanHeld hphase htmr hkey hprev
    · exact .scanNew hphase htmr hkey hprev

theorem State.settleTick_arm {s : State} (c : BitVec 4) (hphase : s.phase = .settle) :
    TickArm s c s.settleTick := by
  rcases s.settleTick_cases with ⟨htmr, e⟩ | ⟨htmr, e⟩ <;> rw [e]
  · exact .wait (by simp [hphase]) htmr
  · exact .settled hphase htmr

theorem State.scanBTick_arm {s : State} (c : BitVec 4) (hphase : s.phase = .scanB) :
    TickArm s c (s.scanBTick c) := by
  rcases s.scanBTick_cases c with ⟨htmr, e⟩ | ⟨htmr, hkey, hidx, e⟩ | ⟨htmr, hend, e⟩ <;> rw [e]
  · exact .wait (by simp [hphase]) htmr
  · exact .nextRow (.inr hphase) htmr hkey hidx
  · rcases s.reconfirmEnds_cases (rowdecode s.idx c) with ⟨hcand, e⟩ | ⟨hcand, e⟩ <;> rw [e]
    · exact .confirmed hphase htmr hend hcand
    · exact .rejected hphase htmr hend hcand

theorem State.showTick_arm {s : State} (c : BitVec 4) (hphase : s.phase = .showDigit) :
    TickArm s c s.showTick := by
  rcases s.showTick_cases with ⟨htmr, e⟩ | ⟨htmr, e⟩ <;> rw [e]
  · exact .wait (by simp [hphase]) htmr
  · exact .shown hphase htmr

theorem State.blankTick_arm {s : State} (c : BitVec 4) (hphase : s.phase = .blank) :
    TickArm s c s.blankTick := by
  rcases s.blankTick_cases with ⟨htmr, e⟩ | ⟨htmr, hidx, e⟩ | ⟨htmr, hidx, e⟩ <;> rw [e]
  · exact .wait (by simp [hphase]) htmr
  · exact .nextDigit hphase htmr hidx
  · exact .passEnds hphase htmr (idx_eq_two_of_not_lt hidx)

/-- The tick of `DISPATCH` on a code that decodes to an operation. -/
theorem State.dispatchTick_of_decode {s : State} {i : Instr} (h : decode s.evt = .instr i) :
    s.dispatchTick = exec i s := by
  rcases s.dispatchTick_cases with ⟨j, hdec, e⟩ | ⟨hdec, -⟩
  · cases h.symm.trans hdec
    exact e
  · cases h.symm.trans hdec

theorem State.dispatchTick_arm {s t : State} (c : BitVec 4) (hphase : s.phase = .dispatch)
    (h : s.dispatchTick = .next t) : TickArm s c t := by
  rcases decode_cases s.evt with ⟨k, hdec, hevt⟩ | ⟨hdec, hevt⟩ | ⟨hdec, hevt⟩ | ⟨hdec, hevt⟩ | ⟨hdec, -⟩
  · rw [State.dispatchTick_of_decode hdec] at h
    rcases execCount_cases k s with ⟨-, e⟩ | ⟨hfits, e⟩
    · cases h.symm.trans e
    · cases h.symm.trans e
      exact .count k hphase hevt hfits
  · rw [State.dispatchTick_of_decode hdec] at h
    cases h
    exact .clear hphase hevt
  · rw [State.dispatchTick_of_decode hdec] at h
    cases h
    exact .toggle hphase hevt
  · rw [State.dispatchTick_of_decode hdec] at h
    cases h
    exact .noEvent hphase hevt
  · rw [State.dispatchTick, hdec] at h
    cases h

theorem State.runTick_arm {s t : State} {c : BitVec 4} (h : s.runTick c = .next t) : TickArm s c t := by
  rw [State.runTick_eq] at h
  cases hphase : s.phase <;> rw [hphase] at h
  case scanA => cases h; exact State.scanATick_arm c hphase
  case settle => cases h; exact State.settleTick_arm c hphase
  case scanB => cases h; exact State.scanBTick_arm c hphase
  case dispatch => exact State.dispatchTick_arm c hphase h
  case showDigit => cases h; exact State.showTick_arm c hphase
  case blank => cases h; exact State.blankTick_arm c hphase

/-- A step that has a next state is the reset, or one of the arms past one edge of the environment. -/
theorem step_next_cases {s t : State} (h : step s = .next t) :
    (s.cfg.wellFormed = true ∧ s.rstPin = true ∧ t = State.resetWith s.cfg (s.inputs.drop 1) (s.edges + 1)) ∨
    (s.cfg.wellFormed = true ∧ s.rstPin = false ∧ TickArm (s.afterEdges 1) s.pinRead t) := by
  rcases step_cases s with ⟨-, e⟩ | ⟨hcfg, hrst, e⟩ | ⟨hcfg, hrst, e⟩
  · cases h.symm.trans e
  · cases h.symm.trans e
    exact .inl ⟨hcfg, hrst, rfl⟩
  · exact .inr ⟨hcfg, hrst, State.runTick_arm (e.symm.trans h)⟩

theorem step_arm_of_running {s t : State} (hrun : s.Running) (h : step s = .next t) :
    TickArm (s.afterEdges 1) s.pinRead t :=
  State.runTick_arm ((step_of_running hrun.1 hrun.2).symm.trans h)

/-- A DISPATCH tick of a code that decodes to an operation runs that operation (42_counter_dispatch.md R110). -/
theorem step_of_dispatch {s : State} {i : Instr} (hrun : s.Running) (hphase : s.phase = .dispatch)
    (hdec : decode s.evt = .instr i) : step s = exec i (s.afterEdges 1) := by
  rw [step_of_running hrun.1 hrun.2, State.runTick_eq, State.afterEdges_phase, hphase]
  exact State.dispatchTick_of_decode hdec

/-! ### What the arms leave unchanged -/

variable {s t : State} {c : BitVec 4}

theorem TickArm.env_eq (h : TickArm s c t) : t.cfg = s.cfg ∧ t.inputs = s.inputs ∧ t.edges = s.edges := by
  cases h <;> exact ⟨rfl, rfl, rfl⟩

theorem TickArm.sameCounters (h : TickArm s c t) (hphase : s.phase ≠ .dispatch) : SameCounters s t := by
  cases h with
  | count _ hdispatch | clear hdispatch | toggle hdispatch | noEvent hdispatch => exact absurd hdispatch hphase
  | _ => exact ⟨rfl, rfl, rfl, rfl⟩

end Sys2Proof.Machine
end

section
/-! PROOF. The registers (10_state.md R21 to R27, R34): where each one is written and what to, their values after reset, and
the word placed at a DISPATCH tick. -/

namespace Sys2Proof.Machine

section Arms
variable {s t : State} {c : BitVec 4}

/-! ### CounterState, by register -/

/-- 10_state.md R21. -/
theorem TickArm.counts_changed (h : TickArm s c t) (k : Fin 8) (hne : t.counts[k] ≠ s.counts[k]) :
    s.phase = .dispatch ∧
      ((s.evt.toNat = k.val ∧ t.counts[k] = s.counts[k] + 1) ∨ (s.evt = 8#4 ∧ t.counts[k] = 0)) := by
  cases h with
  | count j hphase hevt _ =>
    by_cases hj : j = k
    · subst hj
      exact ⟨hphase, .inl ⟨hevt, by simp⟩⟩
    · have hval : j.val ≠ k.val := fun e => hj (Fin.ext e)
      exact absurd (by simp [Vector.getElem_set_ne, hval]) hne
  | clear hphase hevt => exact ⟨hphase, .inr ⟨hevt, by simp⟩⟩
  | _ => exact absurd rfl hne

/-- 10_state.md R22. -/
theorem TickArm.total_changed (h : TickArm s c t) (hne : t.total ≠ s.total) :
    s.phase = .dispatch ∧
      ((s.evt.toNat ≤ 7 ∧ t.total = s.total + 1) ∨ (s.evt = 8#4 ∧ t.total = 0)) := by
  cases h with
  | count k hphase hevt _ => exact ⟨hphase, .inl ⟨by omega, rfl⟩⟩
  | clear hphase hevt => exact ⟨hphase, .inr ⟨hevt, rfl⟩⟩
  | _ => exact absurd rfl hne

/-- 10_state.md R23. -/
theorem TickArm.mode_changed (h : TickArm s c t) (hne : t.mode ≠ s.mode) : s.phase = .dispatch ∧ s.evt = 9#4 := by
  cases h with
  | toggle hphase hevt => exact ⟨hphase, hevt⟩
  | _ => exact absurd rfl hne

theorem Mode.flip_ne (m : Mode) : m.flip ≠ m := by cases m <;> decide

/-- 10_state.md R24. -/
theorem TickArm.snap_changed (h : TickArm s c t) (hne : t.snap ≠ s.snap) :
    s.phase = .dispatch ∧
      ((∃ k : Fin 8, s.evt.toNat = k.val ∧
          t.snap = digits (value s.cfg.pctRound s.mode (s.counts[k] + 1) (s.total + 1))) ∨
        (s.evt = 8#4 ∧ t.snap = #v[0, 0, 0]) ∨
        (s.evt = 9#4 ∧ t.mode ≠ s.mode ∧ t.snap = digits (value s.cfg.pctRound t.mode s.counts[0] s.total))) := by
  cases h with
  | count k hphase hevt _ => exact ⟨hphase, .inl ⟨k, hevt, by simp⟩⟩
  | clear hphase hevt => exact ⟨hphase, .inr (.inl ⟨hevt, rfl⟩)⟩
  | toggle hphase hevt => exact ⟨hphase, .inr (.inr ⟨hevt, s.mode.flip_ne, rfl⟩)⟩
  | _ => exact absurd rfl hne

/-! ### The Debouncer's registers -/

/-- 10_state.md R25. -/
theorem TickArm.prev_changed (h : TickArm s c t) (hne : t.prev ≠ s.prev) :
    s.tmr = 0 ∧
      ((s.phase = .scanA ∧ s.idx = 2 ∧ rowdecode s.idx c = noKey ∧ t.prev = noKey) ∨
       (s.phase = .scanB ∧ rowdecode s.idx c = s.cand ∧ t.prev = s.cand)) := by
  cases h with
  | scanNone hphase htmr hkey hidx => exact ⟨htmr, .inl ⟨hphase, hidx, hkey, rfl⟩⟩
  | confirmed hphase htmr _ hcand => exact ⟨htmr, .inr ⟨hphase, hcand, rfl⟩⟩
  | _ => exact absurd rfl hne

/-- 10_state.md R26. -/
theorem TickArm.cand_changed (h : TickArm s c t) (hne : t.cand ≠ s.cand) :
    s.tmr = 0 ∧ s.phase = .scanA ∧ t.cand = rowdecode s.idx c ∧ t.cand ≠ noKey ∧ t.cand ≠ s.prev := by
  cases h with
  | scanNew hphase htmr hkey hprev => exact ⟨htmr, hphase, rfl, hkey, hprev⟩
  | _ => exact absurd rfl hne

/-- 10_state.md R27. -/
theorem TickArm.evt_changed (h : TickArm s c t) (hne : t.evt ≠ s.evt) :
    s.tmr = 0 ∧ (s.phase = .scanA ∨ s.phase = .scanB) ∧ t.phase = .dispatch ∧
      (t.evt = noKey ∨ (s.phase = .scanB ∧ t.evt = s.cand)) := by
  cases h with
  | scanNone hphase htmr | scanHeld hphase htmr => exact ⟨htmr, .inl hphase, rfl, .inl rfl⟩
  | confirmed hphase htmr => exact ⟨htmr, .inr hphase, rfl, .inr ⟨hphase, rfl⟩⟩
  | rejected hphase htmr => exact ⟨htmr, .inr hphase, rfl, .inl rfl⟩
  | _ => exact absurd rfl hne

end Arms

/-- Settles O11: the counter registers by the arm of the tick, each register's writes a lemma of its own. -/
theorem counterStateWrittenOnlyByDispatch : Obligations.CounterStateWrittenOnlyByDispatch := by
  intro s t hrun hstep
  have harm := step_arm_of_running hrun hstep
  exact ⟨harm.sameCounters, harm.counts_changed, harm.total_changed, harm.mode_changed, harm.snap_changed⟩

/-- Settles O12: the Debouncer's registers by the arm of the tick. -/
theorem debouncerRegistersWrittenOnlyAtScanEnds : Obligations.DebouncerRegistersWrittenOnlyAtScanEnds := by
  intro s t hrun hstep
  have harm := step_arm_of_running hrun hstep
  exact ⟨harm.prev_changed, harm.cand_changed, harm.evt_changed⟩

/-- Settles O48: the reset keeps the configuration and passes one edge, and no arm writes the model's own fields. -/
theorem stepKeepsConfigurationAndTakesOneInput : Obligations.StepKeepsConfigurationAndTakesOneInput := by
  intro s t hstep
  rcases step_next_cases hstep with ⟨-, -, rfl⟩ | ⟨-, -, harm⟩
  · exact ⟨rfl, rfl, rfl⟩
  · exact harm.env_eq

/-! ### The placed word -/

theorem decodeTableWord_eq_some {nbits w : Nat} {i : Instr} (h : decodeTableWord nbits w = some i) :
    decode (tableWordCode w) = .instr i := by
  unfold decodeTableWord at h
  split at h
  next j hdec => cases h; exact hdec
  next => cases h

/-- A placed code is at a DISPATCH tick that no reset takes (log entry 9). -/
theorem State.placeKeyCode_running {s : State} (hcfg : s.cfg.wellFormed = true) (w : KeyCode) :
    (s.placeKeyCode w).Running := ⟨hcfg, rfl⟩

/-- Settles O4: the placed word's code is in `evt` of a running DISPATCH tick. -/
theorem placedWordIsRunNext : Obligations.PlacedWordIsRunNext := by
  intro s nbits w i hcfg hdec
  exact step_of_dispatch (State.placeKeyCode_running hcfg _) rfl (decodeTableWord_eq_some hdec)

/-! ### The values after reset -/

/-- Settles O45, register by register and then the outputs of the first row's scan. -/
theorem resetStateValues : Obligations.ResetStateValues := by
  intro c l e r
  have hcounts : ∀ k : Fin 8, r.counts[k] = 0 := fun k => by simp [r]
  have hrow : r.rowN = 0b110#3 := by simp only [r, State.rowN, State.resetWith_phase, State.resetWith_idx]; decide
  exact ⟨hcounts, rfl, rfl, rfl, rfl, rfl, rfl, rfl, rfl, rfl, rfl, hrow, rfl, rfl⟩

end Sys2Proof.Machine
end

section
/-! PROOF. The invariant (10_state.md R20, R28, R31, R35; 41_debouncer.md R103, R104, R107; 42_counter_dispatch.md R123): the
reset state has it, every arm of the tick keeps each of its clauses, and so it holds along every run, past faults and resets. -/

namespace Sys2Proof.Machine

/-! ### Sums of the counts -/

theorem wellFormed_iff (c : Cfg) :
    c.wellFormed = true ↔ 1 ≤ c.tStab ∧ 1 ≤ c.tSettle ∧ 1 ≤ c.tOn ∧ 1 ≤ c.tBlank ∧ 10 ≤ c.cntW := by
  simp [Cfg.wellFormed, and_assoc]

theorem sumCounts_set_succ (v : Vector Nat 8) (k : Fin 8) : sumCounts (v.set k (v[k] + 1)) = sumCounts v + 1 := by
  fin_cases k <;> simp [sumCounts] <;> omega

theorem sumCounts_eq_zero {v : Vector Nat 8} (h : ∀ k : Fin 8, v[k] = 0) : sumCounts v = 0 := by
  simpa [Fin.forall_fin_succ, sumCounts, and_assoc] using h

/-- Eight counts of `w` bits sum to a number of `w + 3` bits (10_state.md R22). -/
theorem sumCounts_lt {v : Vector Nat 8} {w : Nat} (h : ∀ k : Fin 8, v[k] < 2 ^ w) : sumCounts v < 2 ^ (w + 3) := by
  have hall : v[0] < 2 ^ w ∧ v[1] < 2 ^ w ∧ v[2] < 2 ^ w ∧ v[3] < 2 ^ w ∧ v[4] < 2 ^ w ∧ v[5] < 2 ^ w ∧
      v[6] < 2 ^ w ∧ v[7] < 2 ^ w := by simpa [Fin.forall_fin_succ] using h
  rw [sumCounts, pow_add]
  omega

/-- All counts zero, whatever the mode: the value to show has the digits 0, 0, 0. -/
theorem digits_value_zero (r : PctRound) (m : Mode) : digits (value r m 0 0) = Vector.replicate 3 0 := by
  have hvalue : value r m 0 0 = 0 := by cases m <;> rfl
  rw [hvalue]
  decide

/-! ### Legal sequencer values -/

/-- The ticks that the sequencer stays at one `idx` of a phase (10_state.md R31). -/
def Phase.delay (c : Cfg) : Phase → Nat
  | .scanA | .scanB => c.tStab
  | .settle => c.tSettle
  | .dispatch => 1
  | .showDigit => c.tOn
  | .blank => c.tBlank

theorem Phase.delay_pos {c : Cfg} (hcfg : c.wellFormed = true) (p : Phase) : 0 < p.delay c := by
  obtain ⟨htStab, htSettle, htOn, htBlank, -⟩ := (wellFormed_iff c).1 hcfg
  cases p with
  | scanA | scanB => exact htStab
  | settle => exact htSettle
  | dispatch => exact Nat.one_pos
  | showDigit => exact htOn
  | blank => exact htBlank

/-- The table of 10_state.md R31: the timer is below the phase's delay, and `SETTLE` and `DISPATCH` have no `idx` but 0. -/
theorem State.seqLegal_iff (s : State) :
    s.SeqLegal ↔ s.tmr < s.phase.delay s.cfg ∧ (s.phase = .settle ∨ s.phase = .dispatch → s.idx = 0) := by
  cases hphase : s.phase <;> simp [State.SeqLegal, Phase.delay, hphase, and_comm]

/-- A phase entered with its delay is legal. -/
theorem State.setSeq_seqLegal {s : State} {p : Phase} {i : Fin 3} (hcfg : s.cfg.wellFormed = true)
    (hidx : p = .settle ∨ p = .dispatch → i = 0) : (s.setSeq p i (p.delay s.cfg - 1)).SeqLegal :=
  (State.seqLegal_iff _).2 ⟨Nat.pred_lt_self (p.delay_pos hcfg), hidx⟩

/-! ### The reset state -/

theorem resetWith_inv {c : Cfg} (hcfg : c.wellFormed = true) (l : List Input) (e : Nat) :
    (State.resetWith c l e).Inv := by
  have hfit : (State.resetWith c l e).CountersFit := ⟨fun k => by simp, by simp⟩
  have hseq : (State.resetWith c l e).SeqLegal :=
    State.setSeq_seqLegal (s := State.resetWith c l e) (p := .scanA) (i := 0) hcfg (by simp)
  exact ⟨hcfg, hfit, rfl, ⟨.inr rfl, .inr rfl, .inr rfl⟩, hseq, by simp [State.CandidateIsNew], .inl rfl, fun _ => rfl⟩

/-- Settles O41. -/
theorem resetStateHasInv : Obligations.ResetStateHasInv :=
  ⟨fun _ l e hcfg => resetWith_inv hcfg l e, resetWith_inv (by decide) [] 0⟩

/-! ### Every arm keeps each clause -/

section Arms
variable {s t : State} {c : BitVec 4}

theorem TickArm.total_eq_sumCounts (h : TickArm s c t) (hsum : s.total = sumCounts s.counts) :
    t.total = sumCounts t.counts := by
  cases h with
  | count k => exact (congrArg (· + 1) hsum).trans (sumCounts_set_succ s.counts k).symm
  | clear => rfl
  | _ => exact hsum

theorem TickArm.counts_lt (h : TickArm s c t) (hfit : ∀ k : Fin 8, s.counts[k] < 2 ^ s.cfg.cntW) (k : Fin 8) :
    t.counts[k] < 2 ^ t.cfg.cntW := by
  cases h with
  | count j _ _ hfits =>
    have hk := hfit k
    simp only [State.setSeq_counts, State.recompute_counts, State.countKey_counts, Fin.getElem_fin, Vector.getElem_set]
    split <;> assumption
  | clear => simp
  | _ => exact hfit k

/-- `total` fits because it is the sum of counts that fit. -/
theorem TickArm.countersFit (h : TickArm s c t) (hsum : s.total = sumCounts s.counts) (hfit : s.CountersFit) :
    t.CountersFit := by
  have hcounts := h.counts_lt hfit.1
  refine ⟨hcounts, ?_⟩
  rw [h.total_eq_sumCounts hsum]
  exact sumCounts_lt hcounts

theorem TickArm.keysLegal (h : TickArm s c t) (hkeys : s.KeysLegal) : t.KeysLegal := by
  obtain ⟨hprev, hcand, hevt⟩ := hkeys
  cases h with
  | scanNone => exact ⟨.inr rfl, hcand, .inr rfl⟩
  | scanHeld | rejected => exact ⟨hprev, hcand, .inr rfl⟩
  | scanNew => exact ⟨hprev, rowdecode_range _ _, hevt⟩
  | confirmed => exact ⟨hcand, hcand, hcand⟩
  | _ => exact ⟨hprev, hcand, hevt⟩

/-- Every phase is entered with a timer below its delay (10_state.md R31). -/
theorem TickArm.seqLegal (h : TickArm s c t) (hcfg : s.cfg.wellFormed = true) (hseq : s.SeqLegal) : t.SeqLegal := by
  cases h with
  | wait =>
    obtain ⟨htmr, hidx⟩ := s.seqLegal_iff.1 hseq
    exact (State.seqLegal_iff _).2 ⟨Nat.lt_of_le_of_lt (Nat.sub_le _ 1) htmr, hidx⟩
  | nextRow hphase =>
    rcases hphase with hphase | hphase <;> rw [hphase] <;> exact State.setSeq_seqLegal hcfg (by simp)
  | scanNone | scanHeld | confirmed | rejected => exact State.setSeq_seqLegal (p := .dispatch) hcfg fun _ => rfl
  | scanNew => exact State.setSeq_seqLegal (p := .settle) hcfg fun _ => rfl
  | settled => exact State.setSeq_seqLegal (p := .scanB) hcfg (by simp)
  | count | clear | toggle | noEvent | nextDigit => exact State.setSeq_seqLegal (p := .showDigit) hcfg (by simp)
  | shown => exact State.setSeq_seqLegal (p := .blank) hcfg (by simp)
  | passEnds => exact State.setSeq_seqLegal (p := .scanA) hcfg (by simp)

theorem TickArm.candidateIsNew (h : TickArm s c t) (hnew : s.CandidateIsNew) : t.CandidateIsNew := by
  cases h with
  | wait | nextRow => exact hnew
  | settled hphase => exact fun _ => hnew (.inl hphase)
  | scanNew _ _ hkey hprev => exact fun _ => ⟨hkey, hprev⟩
  | _ => simp [State.CandidateIsNew]

theorem TickArm.eventIsAccepted (h : TickArm s c t) (hevt : s.EventIsAccepted) : t.EventIsAccepted := by
  cases h with
  | scanNone | scanHeld | rejected => exact .inl rfl
  | confirmed => exact .inr rfl
  | _ => exact hevt

/-- A `COUNT` leaves a count that is not zero; a `TOGGLE` of zero counts shows zero in both modes (42_counter_dispatch.md
R123). -/
theorem TickArm.zeroCountsShowZero (h : TickArm s c t) (hsum : s.total = sumCounts s.counts)
    (hzero : s.ZeroCountsShowZero) : t.ZeroCountsShowZero := by
  cases h with
  | count k => exact fun hall => absurd (hall k) (by simp)
  | clear => exact fun _ => rfl
  | toggle =>
    intro (hall : ∀ k : Fin 8, s.counts[k] = 0)
    have htotal : s.total = 0 := hsum.trans (sumCounts_eq_zero hall)
    have hkey0 : s.counts[(0 : Fin 8)] = 0 := hall 0
    simp only [State.setSeq_snap, State.recompute_snap, State.flipMode_counts, State.flipMode_total, htotal, hkey0]
    exact digits_value_zero _ _
  | _ => exact hzero

theorem TickArm.inv (h : TickArm s c t) (hinv : s.Inv) : t.Inv := by
  obtain ⟨hcfg, hfit, hsum, hkeys, hseq, hnew, hevt, hzero⟩ := hinv
  exact ⟨h.env_eq.1 ▸ hcfg, h.countersFit hsum hfit, h.total_eq_sumCounts hsum, h.keysLegal hkeys, h.seqLegal hcfg hseq,
    h.candidateIsNew hnew, h.eventIsAccepted hevt, h.zeroCountsShowZero hsum hzero⟩

end Arms

/-- Settles O40: a reset gives a state of the invariant, and every arm keeps it; passing an edge of the environment writes no
register that the invariant speaks of. -/
theorem everyStepKeepsInv : Obligations.EveryStepKeepsInv := by
  intro s t hinv hstep
  rcases step_next_cases hstep with ⟨hcfg, -, rfl⟩ | ⟨-, -, harm⟩
  · exact resetWith_inv hcfg _ _
  · have hinv' : (s.afterEdges 1).Inv := hinv
    exact harm.inv hinv'

/-! ### Along a run -/

/-- The invariant of a block: its state's while the machine runs; a machine that is stopped was stopped by a counter
overflow, and the reset that leads on has a configuration to go on with; the block is never refused. -/
def Block.Inv : Block → Prop
  | .running s => s.Inv
  | .faulted f s => (∃ k, f = .counterOverflow k) ∧ s.cfg.wellFormed = true
  | .refused _ => False

/-- One edge keeps it: a running block takes a step or overflows, a faulted one waits or is reset. -/
theorem Block.Inv.tick {b : Block} (h : b.Inv) : b.tick.Inv := by
  cases b with
  | running s =>
    rcases onlyCounterOverflowStopsTheBlock s h with ⟨t, hstep⟩ | ⟨k, hfault, -⟩
    · rw [Block.tick_of_next hstep]
      exact everyStepKeepsInv s t h hstep
    · rw [Block.tick_of_fault hfault]
      exact ⟨⟨k, rfl⟩, h.1⟩
  | faulted f s =>
    cases hrst : s.rstPin with
    | true =>
      rw [Block.tick_faulted_of_rst hrst]
      exact resetWith_inv h.2 _ _
    | false =>
      rw [Block.tick_faulted hrst]
      exact h
  | refused r => exact h.elim

theorem Block.Inv.ticks {b : Block} (h : b.Inv) (n : Nat) : (b.ticks n).Inv := by
  induction n generalizing b with
  | zero => exact h
  | succ n ih => exact ih h.tick

/-- Every run from a state of the invariant that ends in a state ends in one of the invariant. -/
theorem runTicks_inv {s t : State} {n : Nat} (h : s.Inv) (hrun : runTicks n s = .next t) : t.Inv := by
  have hblock : ((Block.running s).ticks n).Inv := Block.Inv.ticks (b := .running s) h n
  rw [runTicks_eq_next.1 hrun] at hblock
  exact hblock

/-- Settles O42: the clauses of the invariant, which every run from reset keeps. -/
theorem reachableStatesAreLegal : Obligations.ReachableStatesAreLegal := by
  intro c l e n t hcfg hrun
  obtain ⟨-, hfit, hsum, hkeys, hseq, -⟩ := runTicks_inv (resetWith_inv hcfg l e) hrun
  exact ⟨hsum, hseq, hkeys, hfit⟩

end Sys2Proof.Machine
end

section
/-! PROOF. The columns (20_memory.md R54): the block reads `col_n` at the edges that end a sampling tick and at no other. -/

namespace Sys2Proof.Machine

theorem State.isSampling_eq_false_iff (s : State) :
    s.isSampling = false ↔ (s.phase = .scanA ∨ s.phase = .scanB → 0 < s.tmr) := by
  simp [State.isSampling, Nat.pos_iff_ne_zero]

/-! ### A waiting scan tick does not look at its sample -/

theorem State.scanATick_of_waiting {s : State} (htmr : 0 < s.tmr) (c : BitVec 4) : s.scanATick c = s.countDown := by
  rcases s.scanATick_cases c with ⟨-, e⟩ | ⟨hzero, -⟩ | ⟨hzero, -⟩
  · exact e
  all_goals exact absurd hzero htmr.ne'

theorem State.scanBTick_of_waiting {s : State} (htmr : 0 < s.tmr) (c : BitVec 4) : s.scanBTick c = s.countDown := by
  rcases s.scanBTick_cases c with ⟨-, e⟩ | ⟨hzero, -⟩ | ⟨hzero, -⟩
  · exact e
  all_goals exact absurd hzero htmr.ne'

/-- The scan phases have the only arms of the tick that are given the columns; outside a sampling tick they count down. -/
theorem State.runTick_eq_of_not_sampling {s : State} (h : s.isSampling = false) (c d : BitVec 4) :
    s.runTick c = s.runTick d := by
  have hwait := s.isSampling_eq_false_iff.1 h
  rw [State.runTick_eq, State.runTick_eq]
  cases hphase : s.phase with
  | scanA =>
    have htmr := hwait (.inl hphase)
    exact congrArg _ ((State.scanATick_of_waiting htmr c).trans (State.scanATick_of_waiting htmr d).symm)
  | scanB =>
    have htmr := hwait (.inr hphase)
    exact congrArg _ ((State.scanBTick_of_waiting htmr c).trans (State.scanBTick_of_waiting htmr d).symm)
  | settle | dispatch | showDigit | blank => rfl

/-! ### The step and the outputs -/

/-- States that the coming edge leaves the same, with the same `rst` there: a refusal and a reset do not look at the columns,
and a tick of the phase arms does so in a sampling tick only. -/
theorem step_eq_of_not_sampling {s t : State} (h : s.isSampling = false) (hafter : s.afterEdges 1 = t.afterEdges 1)
    (hrst : s.rstPin = t.rstPin) : step s = step t := by
  have hcfg : s.cfg = t.cfg := by simpa using congrArg State.cfg hafter
  have hreset : s.takeReset = t.takeReset :=
    congrArg (fun u : State => State.resetWith u.cfg u.inputs u.edges) hafter
  rcases step_cases s with ⟨hbad, e⟩ | ⟨hgood, hr, e⟩ | ⟨hgood, hr, e⟩
  · exact e.trans ((step_eq_refused_iff t _).2 ⟨hcfg ▸ hbad, rfl⟩).symm
  · rw [e, hreset]
    exact (step_of_rst (hcfg ▸ hgood) (hrst ▸ hr)).symm
  · have hsampling : (s.afterEdges 1).isSampling = false := h
    calc step s = (s.afterEdges 1).runTick s.pinRead := e
      _ = (s.afterEdges 1).runTick t.pinRead := State.runTick_eq_of_not_sampling hsampling _ _
      _ = (t.afterEdges 1).runTick t.pinRead := by rw [hafter]
      _ = step t := (step_of_running (hcfg ▸ hgood) (hrst ▸ hr)).symm

/-- The outputs are a function of the registers and the configuration (44_sequencer.md R141). -/
theorem outputs_withInputs (s : State) (l : List Input) : outputs { s with inputs := l } = outputs s := rfl

/-- Settles O21: outside a sampling tick no arm of the step reads the columns, and the outputs never do. -/
theorem columnsReadOnlyAtSamplingEdges : Obligations.ColumnsReadOnlyAtSamplingEdges := by
  intro s c d r l h
  exact ⟨step_eq_of_not_sampling h rfl rfl, (outputs_withInputs s _).trans (outputs_withInputs s _).symm⟩

end Sys2Proof.Machine
end

section
/-! PROOF. The operation map (30_encoding.md R70, R79, R80): each code against the operation it selects. -/

namespace Sys2Proof.Machine

/-- The operand of `COUNT k` is the value of its code `0kkk` (30_encoding.md R70). -/
@[simp] theorem toNat_encode_count (k : Fin 8) : (encode (.count k)).toNat = k.val := by
  rw [encode, BitVec.toNat_append]
  simp

theorem decode_encode (i : Instr) : decode (encode i) = .instr i := by
  cases i with
  | count k => exact (decode_eq_count_iff _ k).2 (toNat_encode_count k)
  | reset | toggle | none => rfl

theorem encode_of_decode {w : KeyCode} {i : Instr} (h : decode w = .instr i) : encode i = w := by
  rcases decode_cases w with ⟨k, e, hval⟩ | ⟨e, rfl⟩ | ⟨e, rfl⟩ | ⟨e, rfl⟩ | ⟨e, -, -⟩
  · cases e.symm.trans h
    exact BitVec.eq_of_toNat_eq ((toNat_encode_count k).trans hval.symm)
  · cases e.symm.trans h
    rfl
  · cases e.symm.trans h
    rfl
  · cases e.symm.trans h
    rfl
  · cases e.symm.trans h

/-- Settles O1: each code has the value of the operation it encodes, and the map takes no other code to an operation. -/
theorem decodeAndEncodeAgree : Obligations.DecodeAndEncodeAgree :=
  ⟨fun i _ => decode_encode i, fun _ _ => encode_of_decode⟩

/-- Settles O2: the six codes are those that `encode` gives, and the codes 10 to 14 are exactly the reserved ones. -/
theorem operationMapOnWords : Obligations.OperationMapOnWords :=
  ⟨decode_encode (.count 0), decode_encode (.count 5), decode_encode (.count 7), decode_encode .reset,
    decode_encode .toggle, decode_encode .none, fun w hlow hhigh => (decode_eq_reserved_iff w).2 ⟨hlow, hhigh⟩⟩

end Sys2Proof.Machine
end

section
/-! PROOF. Row decode (30_encoding.md R73): the sample's active populated columns, of which the lowest one names the key. -/

namespace Sys2Proof.Machine

/-- The columns of a sample of row `r` that are low and populated: the bus `a` of `rowdecode`. -/
def activeColumns (r : Fin 3) (s : BitVec 4) : BitVec 4 := ~~~s &&& vmask r

theorem rowdecode_eq (r : Fin 3) (s : BitVec 4) :
    rowdecode r s = if activeColumns r s = 0#4 then noKey else keyIndex r (lowbit (activeColumns r s)) := rfl

/-! ### The parts of `rowdecode` -/

theorem vmask_getLsbD (r : Fin 3) (c : Fin 4) :
    (vmask r).getLsbD c.val = decide (4 * r.val + c.val < 10) := by
  revert r c; decide

theorem activeColumns_getLsbD (r : Fin 3) (s : BitVec 4) (c : Fin 4) :
    (activeColumns r s).getLsbD c.val = true ↔ s.getLsbD c.val = false ∧ 4 * r.val + c.val < 10 := by
  rw [activeColumns, BitVec.getLsbD_and, vmask_getLsbD, BitVec.getLsbD_not]
  simp

theorem activeColumns_eq_zero_iff (r : Fin 3) (s : BitVec 4) :
    activeColumns r s = 0#4 ↔ ∀ c : Fin 4, 4 * r.val + c.val < 10 → s.getLsbD c.val = true := by
  have hzero : activeColumns r s = 0#4 ↔ ∀ c : Fin 4, ¬(activeColumns r s).getLsbD c.val = true :=
    ⟨fun h c => by simp [h], fun h => BitVec.eq_of_getLsbD_eq fun i hi => by simpa using h ⟨i, hi⟩⟩
  rw [hzero]
  refine forall_congr' fun c => ?_
  rw [activeColumns_getLsbD, not_and', Bool.not_eq_false]

/-- `lowbit` is the lowest set bit of a bus that has one (00_scope.md R15). -/
theorem lowbit_eq_iff {a : BitVec 4} (ha : a ≠ 0#4) (c : Fin 4) :
    lowbit a = c ↔ a.getLsbD c.val = true ∧ ∀ d : Fin 4, d < c → ¬a.getLsbD d.val = true := by
  revert a c; decide

@[simp] theorem keyIndex_toNat (r : Fin 3) (c : Fin 4) : (keyIndex r c).toNat = 4 * r.val + c.val := by
  rw [keyIndex, BitVec.toNat_ofNat]
  omega

theorem keyIndex_ne_noKey (r : Fin 3) (c : Fin 4) : keyIndex r c ≠ noKey := by
  intro h
  have hval : 4 * r.val + c.val = 15 := by simpa using congrArg BitVec.toNat h
  omega

/-! ### The two results -/

theorem rowdecode_eq_noKey_iff (r : Fin 3) (s : BitVec 4) : rowdecode r s = noKey ↔ activeColumns r s = 0#4 := by
  rw [rowdecode_eq]
  split
  next hzero => exact iff_of_true rfl hzero
  next hne => exact iff_of_false (keyIndex_ne_noKey _ _) hne

theorem rowdecode_toNat_eq_iff (r : Fin 3) (s : BitVec 4) (c : Fin 4) :
    (rowdecode r s).toNat = 4 * r.val + c.val ↔
      (activeColumns r s).getLsbD c.val = true ∧ ∀ d : Fin 4, d < c → ¬(activeColumns r s).getLsbD d.val = true := by
  rw [rowdecode_eq]
  split
  next hzero =>
    have hcode : noKey.toNat ≠ 4 * r.val + c.val := by
      have hnone : noKey.toNat = 15 := rfl
      omega
    exact iff_of_false hcode (by simp [hzero])
  next hne => rw [← lowbit_eq_iff hne, keyIndex_toNat, Nat.add_left_cancel_iff, Fin.val_inj]

/-- Settles O16: the columns below a populated one are populated, so the lowest active column has only high ones below. -/
theorem rowDecodeLowestPopulatedColumn : Obligations.RowDecodeLowestPopulatedColumn := by
  intro r s
  refine ⟨fun c => ?_, (rowdecode_eq_noKey_iff r s).trans (activeColumns_eq_zero_iff r s)⟩
  rw [rowdecode_toNat_eq_iff, activeColumns_getLsbD, and_assoc]
  refine and_congr_right fun _ => and_congr_right fun hpop => forall₂_congr fun d hd => ?_
  have hbelow : 4 * r.val + d.val < 10 := by omega
  rw [activeColumns_getLsbD, and_iff_left hbelow, Bool.not_eq_false]

end Sys2Proof.Machine
end

section
/-! PROOF. The ideal key matrix, the test fixture of 30_encoding.md R81. -/

namespace Sys2Proof.Machine

/-- A column is low for a closed key in it (position mod 4) whose row line (position div 4) is low. -/
theorem idealColumns_getLsbD_eq_false_iff (rowN : BitVec 3) (keys : List (Fin 12)) (c : Fin 4) :
    (idealColumns rowN keys).getLsbD c.val = false ↔
      ∃ p ∈ keys, p.val % 4 = c.val ∧ rowN.getLsbD (p.val / 4) = false := by
  have hbit : (idealColumns rowN keys).getLsbD c.val =
      !keys.any fun p => decide (p.val % 4 = c.val) && !rowN.getLsbD (p.val / 4) := by
    rw [idealColumns, BitVec.getLsbD_ofBoolListLE]
    match c with
    | 0 | 1 | 2 | 3 => rfl
  rw [hbit]
  simp

/-- Position `p` stands in column `c` of row `r` exactly when `r` and `c` are its quotient and remainder by 4. -/
theorem exists_row_of_position_iff (rowN : BitVec 3) (c : Fin 4) (p : Fin 12) :
    (∃ r : Fin 3, rowN.getLsbD r.val = false ∧ p.val = 4 * r.val + c.val) ↔
      p.val % 4 = c.val ∧ rowN.getLsbD (p.val / 4) = false := by
  constructor
  · rintro ⟨r, hrow, hpos⟩
    have hquot : p.val / 4 = r.val := by omega
    exact ⟨by omega, hquot ▸ hrow⟩
  · rintro ⟨hcol, hrow⟩
    exact ⟨⟨p.val / 4, by omega⟩, hrow, hcol ▸ (Nat.div_add_mod p.val 4).symm⟩

theorem idealColumns_low_iff (rowN : BitVec 3) (keys : List (Fin 12)) (c : Fin 4) :
    (idealColumns rowN keys).getLsbD c.val = false ↔
      ∃ (r : Fin 3) (p : Fin 12), p ∈ keys ∧ rowN.getLsbD r.val = false ∧ p.val = 4 * r.val + c.val := by
  simp only [idealColumns_getLsbD_eq_false_iff, ← exists_row_of_position_iff]
  exact ⟨fun ⟨p, hp, r, h⟩ => ⟨r, p, hp, h⟩, fun ⟨r, p, hp, h⟩ => ⟨p, hp, r, h⟩⟩

theorem idealColumns_no_row (keys : List (Fin 12)) : idealColumns 0b111#3 keys = 0b1111#4 := by
  refine BitVec.eq_of_getLsbD_eq fun i hi => ?_
  have hhigh : (idealColumns 0b111#3 keys).getLsbD i = true := by
    refine Bool.of_not_eq_false fun hlow => ?_
    obtain ⟨r, -, -, hrow, -⟩ := (idealColumns_low_iff _ _ ⟨i, hi⟩).1 hlow
    exact absurd hrow (by revert r; decide)
  have hones : ∀ c : Fin 4, (0b1111#4).getLsbD c.val = true := by decide
  exact hhigh.trans (hones ⟨i, hi⟩).symm

/-- Settles O49: a low column is a closed key whose row line is low, and with all row lines high there is none. -/
theorem idealMatrixColumns : Obligations.IdealMatrixColumns :=
  fun rowN keys => ⟨idealColumns_low_iff rowN keys, fun h => h ▸ idealColumns_no_row keys⟩

end Sys2Proof.Machine
end

section
/-! PROOF. The sweep as a function of its samples (40_input_scanner.md R93 to R95): the row at which it stops, and from there
the position it reports. -/

namespace Sys2Proof.Machine

/-! ### The samples by row -/

/-- The sample taken while row `r` is driven. -/
def Samples.row (a : Samples) : Fin 3 → BitVec 4
  | 0 => a.row0
  | 1 => a.row1
  | 2 => a.row2

/-- Position `4r + c` is seen active when column `c` is low in the sample of row `r` (20_memory.md R51). -/
theorem Samples.seesActive_eq_false_iff (a : Samples) {q : Fin 10} {r : Fin 3} {c : Fin 4}
    (hq : q.val = 4 * r.val + c.val) : a.seesActive q = false ↔ (a.row r).getLsbD c.val = true := by
  have hcol : q.val % 4 = c.val := by omega
  have hrow : (if q.val < 4 then a.row0 else if q.val < 8 then a.row1 else a.row2) = a.row r := by
    rw [hq]
    match r with
    | 0 => exact if_pos (by omega)
    | 1 => exact (if_neg (by omega)).trans (if_pos (by omega))
    | 2 => exact (if_neg (by omega)).trans (if_neg (by omega))
  rw [Samples.seesActive, hrow, hcol, Bool.not_eq_false']

theorem exists_row_column (q : Fin 10) : ∃ (r : Fin 3) (c : Fin 4), q.val = 4 * r.val + c.val :=
  ⟨⟨q.val / 4, by omega⟩, ⟨q.val % 4, by omega⟩, (Nat.div_add_mod q.val 4).symm⟩

/-! ### One row's decode -/

theorem rowdecode_eq_noKey_iff_seesActive (a : Samples) (r : Fin 3) :
    rowdecode r (a.row r) = noKey ↔
      ∀ (q : Fin 10) (c : Fin 4), q.val = 4 * r.val + c.val → a.seesActive q = false := by
  rw [(rowDecodeLowestPopulatedColumn r (a.row r)).2]
  constructor
  · exact fun h q c hq => (a.seesActive_eq_false_iff hq).2 (h c (hq ▸ q.isLt))
  · exact fun h c hc => (a.seesActive_eq_false_iff rfl).1 (h ⟨4 * r.val + c.val, hc⟩ c rfl)

/-- A key that a row decodes to lies in that row. -/
theorem rowdecode_position {r : Fin 3} {s : BitVec 4} (h : rowdecode r s ≠ noKey) :
    ∃ c : Fin 4, (rowdecode r s).toNat = 4 * r.val + c.val := by
  rw [rowdecode_eq, if_neg ((rowdecode_eq_noKey_iff r s).not.1 h)]
  exact ⟨_, keyIndex_toNat _ _⟩

/-- Only the populated columns matter (30_encoding.md R73). -/
theorem rowdecode_congr {r : Fin 3} {s t : BitVec 4} (h : s &&& vmask r = t &&& vmask r) :
    rowdecode r s = rowdecode r t := by
  have hactive : ∀ u : BitVec 4, activeColumns r u = ~~~(u &&& vmask r) &&& vmask r := fun u => by
    rw [activeColumns]
    ext i
    simp [Bool.and_or_distrib_right]
  rw [rowdecode_eq, rowdecode_eq, hactive s, hactive t, h]

/-! ### The row at which the sweep stops -/

/-- The sweep stops at row `r` of the samples: the rows above gave no key, and row `r` gave one or is the last
(40_input_scanner.md R92). -/
structure Samples.StopsAt (a : Samples) (r : Fin 3) : Prop where
  missed : ∀ q < r, rowdecode q (a.row q) = noKey
  stops : ¬(rowdecode r (a.row r) = noKey ∧ r < 2)
  result : sweep a = rowdecode r (a.row r)
  rows : sweepRows a = r.val + 1

theorem Samples.exists_stopsAt (a : Samples) : ∃ r, a.StopsAt r := by
  by_cases h0 : rowdecode 0 a.row0 = noKey
  · by_cases h1 : rowdecode 1 a.row1 = noKey
    · exact ⟨2, by simp [Fin.forall_fin_succ, Samples.row, h0, h1], by simp, by simp [sweep, Samples.row, h0, h1],
        by simp [sweepRows, h0, h1]⟩
    · exact ⟨1, by simp [Samples.row, h0], fun h => h1 h.1, by simp [sweep, Samples.row, h0, h1],
        by simp [sweepRows, h0, h1]⟩
  · exact ⟨0, by simp, fun h => h0 h.1, by simp [sweep, Samples.row, h0], by simp [sweepRows, h0]⟩

variable {a b : Samples} {r : Fin 3}

theorem Samples.StopsAt.eq_two_of_noKey (h : a.StopsAt r) (hnone : sweep a = noKey) : r = 2 :=
  idx_eq_two_of_not_lt fun hlt => h.stops ⟨h.result.symm.trans hnone, hlt⟩

/-- A sweep that finds a key stops at the key's row. -/
theorem Samples.StopsAt.eq_row (h : a.StopsAt r) (hkey : sweep a ≠ noKey) : (sweep a).toNat / 4 = r.val := by
  rw [h.result] at hkey ⊢
  obtain ⟨c, hc⟩ := rowdecode_position hkey
  omega

theorem sweep_range (a : Samples) : (∃ p : Fin 10, (sweep a).toNat = p.val) ∨ sweep a = noKey := by
  obtain ⟨r, hstop⟩ := a.exists_stopsAt
  rw [hstop.result]
  exact (rowdecode_range r _).imp_left fun h => ⟨⟨_, Nat.lt_succ_of_le h⟩, rfl⟩

theorem sweep_eq_noKey_iff (a : Samples) : sweep a = noKey ↔ ∀ q : Fin 10, a.seesActive q = false := by
  obtain ⟨r, hstop⟩ := a.exists_stopsAt
  constructor
  · intro hnone q
    obtain rfl := hstop.eq_two_of_noKey hnone
    obtain ⟨r, c, hq⟩ := exists_row_column q
    have hrow : rowdecode r (a.row r) = noKey := by
      by_cases hr : r < 2
      · exact hstop.missed r hr
      · rw [idx_eq_two_of_not_lt hr, ← hstop.result, hnone]
    exact (rowdecode_eq_noKey_iff_seesActive a r).1 hrow q c hq
  · intro hinactive
    rw [hstop.result, rowdecode_eq_noKey_iff_seesActive]
    exact fun q _ _ => hinactive q

/-- A sweep's key is seen active; the rows above it hold no active position, and its own row none in a lower column. -/
theorem lowest_active_of_sweep_eq {p : Fin 10} (h : (sweep a).toNat = p.val) :
    a.seesActive p = true ∧ ∀ q : Fin 10, q < p → a.seesActive q = false := by
  obtain ⟨r, hstop⟩ := a.exists_stopsAt
  have hkey : rowdecode r (a.row r) ≠ noKey := by
    intro hnone
    rw [hstop.result, hnone] at h
    exact absurd p.isLt (by simp [← h])
  obtain ⟨c, hc⟩ := rowdecode_position hkey
  have hp : p.val = 4 * r.val + c.val := by rw [← h, hstop.result, hc]
  obtain ⟨hlow, -, hbelow⟩ := ((rowDecodeLowestPopulatedColumn r (a.row r)).1 c).1 hc
  refine ⟨Bool.of_not_eq_false fun hoff => ?_, fun q hq => ?_⟩
  · exact Bool.false_ne_true (hlow.symm.trans ((a.seesActive_eq_false_iff hp).1 hoff))
  · obtain ⟨r', d, hq'⟩ := exists_row_column q
    by_cases hr : r' < r
    · exact (rowdecode_eq_noKey_iff_seesActive a r').1 (hstop.missed r' hr) q d hq'
    · obtain rfl : r' = r := by omega
      exact (a.seesActive_eq_false_iff hq').2 (hbelow d (by omega))

/-- Settles O19: there is one lowest active position, and the sweep's key is one. -/
theorem sweepReportsLowestActivePosition : Obligations.SweepReportsLowestActivePosition := by
  refine fun a => ⟨fun p => ⟨lowest_active_of_sweep_eq, fun ⟨hactive, hlowest⟩ => ?_⟩, sweep_eq_noKey_iff a⟩
  rcases sweep_range a with ⟨k, hk⟩ | hnone
  · obtain ⟨hkactive, hklowest⟩ := lowest_active_of_sweep_eq hk
    have hle : k ≤ p := not_lt.1 fun hlt => Bool.false_ne_true ((hklowest p hlt).symm.trans hactive)
    have hge : p ≤ k := not_lt.1 fun hlt => Bool.false_ne_true ((hlowest k hlt).symm.trans hkactive)
    rw [hk, le_antisymm hle hge]
  · exact absurd ((sweep_eq_noKey_iff a).1 hnone p) (by simp [hactive])

/-! ### The unpopulated positions -/

theorem sweep_congr (h : ∀ r, rowdecode r (a.row r) = rowdecode r (b.row r)) :
    sweep a = sweep b ∧ sweepRows a = sweepRows b := by
  have h0 : rowdecode 0 a.row0 = rowdecode 0 b.row0 := h 0
  have h1 : rowdecode 1 a.row1 = rowdecode 1 b.row1 := h 1
  have h2 : rowdecode 2 a.row2 = rowdecode 2 b.row2 := h 2
  rw [sweep, sweep, sweepRows, sweepRows, h0, h1, h2]
  exact ⟨rfl, rfl⟩

theorem sweep_congr_of_populated (h0 : a.row0 = b.row0) (h1 : a.row1 = b.row1)
    (h2 : a.row2 &&& 0b0011#4 = b.row2 &&& 0b0011#4) : sweep a = sweep b ∧ sweepRows a = sweepRows b :=
  sweep_congr fun
    | 0 => congrArg (rowdecode 0) h0
    | 1 => congrArg (rowdecode 1) h1
    | 2 => rowdecode_congr (r := 2) h2

/-- Settles O20: row 2 is decoded under the mask of its populated columns; with these inactive the samples are as if no key
were closed. -/
theorem unpopulatedPositionsInvisible : Obligations.UnpopulatedPositionsInvisible := by
  refine ⟨fun a b => sweep_congr_of_populated, fun a h0 h1 h2 => ?_⟩
  have hopen : sweep ⟨0b1111#4, 0b1111#4, 0b1111#4⟩ = noKey := by decide
  exact (sweep_congr_of_populated h0 h1 h2).1.trans hopen

end Sys2Proof.Machine
end

section
/-! PROOF. The ticks of a sweep (40_input_scanner.md R91, R92, R94): a row is driven for `T_STAB` ticks and sampled at the end
of the last; rows follow each other up to the one at which the sweep stops. -/

namespace Sys2Proof.Machine

section Tick
variable {s : State}

/-! ### Waiting ticks, in every phase that waits (44_sequencer.md R145) -/

theorem step_of_waiting (hrun : s.Running) (hphase : s.phase ≠ .dispatch) (htmr : 0 < s.tmr) :
    step s = .next (s.movedTo 1 s.phase s.idx (s.tmr - 1)) := by
  have hcomplete : ∃ t, step s = .next t := by
    rcases step_completes_or_faults hrun.1 with h | ⟨-, hdispatch, -⟩
    · exact h
    · exact absurd hdispatch hphase
  obtain ⟨t, hstep⟩ := hcomplete
  rw [hstep]
  cases step_arm_of_running hrun hstep with
  | wait => rfl
  | count _ hdispatch | clear hdispatch | toggle hdispatch | noEvent hdispatch => exact absurd hdispatch hphase
  | nextRow _ hzero | scanNone _ hzero | scanHeld _ hzero | scanNew _ hzero | settled _ hzero | confirmed _ hzero
  | rejected _ hzero | shown _ hzero | nextDigit _ hzero | passEnds _ hzero => exact absurd hzero htmr.ne'

theorem State.NoResetFor.mono {m n : Nat} (h : s.NoResetFor n) (hle : m ≤ n) : s.NoResetFor m :=
  fun i hi => h i (Nat.lt_of_lt_of_le hi hle)

theorem runTicks_of_waiting {n : Nat} (hcfg : s.cfg.wellFormed = true) (hphase : s.phase ≠ .dispatch)
    (hn : n ≤ s.tmr) (hrst : s.NoResetFor n) :
    runTicks n s = .next (s.movedTo n s.phase s.idx (s.tmr - n)) := by
  induction n generalizing s with
  | zero => simp
  | succ n ih =>
    have hstep := step_of_waiting ⟨hcfg, hrst 0 n.succ_pos⟩ hphase (Nat.zero_lt_of_lt hn)
    have hrst' : (s.afterEdges 1).NoResetFor n := State.NoResetFor.afterEdges (Nat.add_comm n 1 ▸ hrst)
    have hrest := ih (s := s.movedTo 1 s.phase s.idx (s.tmr - 1)) hcfg hphase (Nat.le_sub_of_add_le hn) hrst'
    rw [runTicks_succ_of_next hstep, hrest]
    simp [Nat.add_comm, Nat.sub_sub]

/-! ### The scan phases, `SCAN_A` and `SCAN_B` alike -/

/-- The sweep of a scan phase ends with result `k` (40_input_scanner.md R92). -/
def State.sweepEnds (s : State) (k : KeyCode) : State :=
  if s.phase = .scanA then s.firstScanEnds k else s.reconfirmEnds k

theorem State.sweepEnds_of_scanA (hphase : s.phase = .scanA) (k : KeyCode) : s.sweepEnds k = s.firstScanEnds k :=
  if_pos hphase

theorem State.sweepEnds_of_scanB (hphase : s.phase = .scanB) (k : KeyCode) : s.sweepEnds k = s.reconfirmEnds k :=
  if_neg (by simp [hphase])

/-- The end of a sweep overwrites `idx` and `tmr` and does not read them (40_input_scanner.md R96). -/
theorem State.sweepEnds_setSeq (s : State) (i : Fin 3) (t : Nat) (k : KeyCode) :
    (s.setSeq s.phase i t).sweepEnds k = s.sweepEnds k := rfl

theorem State.sweepEnds_phase (s : State) (k : KeyCode) :
    (s.sweepEnds k).phase = .settle ∨ (s.sweepEnds k).phase = .dispatch := by
  unfold State.sweepEnds
  split
  · rcases s.firstScanEnds_cases k with ⟨-, e⟩ | ⟨-, -, e⟩ | ⟨-, -, e⟩ <;> simp [e]
  · rcases s.reconfirmEnds_cases k with ⟨-, e⟩ | ⟨-, e⟩ <;> simp [e]

/-- What a tick of a scan phase does (40_input_scanner.md R91, R92). -/
theorem State.runTick_scan_cases (hscan : s.phase = .scanA ∨ s.phase = .scanB) (c : BitVec 4) :
    (0 < s.tmr ∧ s.runTick c = .next s.countDown) ∨
    (s.tmr = 0 ∧ (rowdecode s.idx c = noKey ∧ s.idx < 2) ∧
      s.runTick c = .next (s.setSeq s.phase (s.idx + 1) (s.cfg.tStab - 1))) ∨
    (s.tmr = 0 ∧ ¬(rowdecode s.idx c = noKey ∧ s.idx < 2) ∧
      s.runTick c = .next (s.sweepEnds (rowdecode s.idx c))) := by
  rcases hscan with hphase | hphase
  · have htick : s.runTick c = .next (s.scanATick c) := by rw [State.runTick_eq, hphase]
    rw [htick, State.sweepEnds_of_scanA hphase]
    rcases s.scanATick_cases c with ⟨h, e⟩ | ⟨h, hkey, hidx, e⟩ | ⟨h, hend, e⟩ <;> rw [e]
    · exact .inl ⟨h, rfl⟩
    · exact .inr (.inl ⟨h, ⟨hkey, hidx⟩, rfl⟩)
    · exact .inr (.inr ⟨h, hend, rfl⟩)
  · have htick : s.runTick c = .next (s.scanBTick c) := by rw [State.runTick_eq, hphase]
    rw [htick, State.sweepEnds_of_scanB hphase]
    rcases s.scanBTick_cases c with ⟨h, e⟩ | ⟨h, hkey, hidx, e⟩ | ⟨h, hend, e⟩ <;> rw [e]
    · exact .inl ⟨h, rfl⟩
    · exact .inr (.inl ⟨h, ⟨hkey, hidx⟩, rfl⟩)
    · exact .inr (.inr ⟨h, hend, rfl⟩)

theorem step_of_row_missed (hrun : s.Running) (hscan : s.phase = .scanA ∨ s.phase = .scanB) (htmr : s.tmr = 0)
    (hmiss : rowdecode s.idx s.pinRead = noKey ∧ s.idx < 2) :
    step s = .next (s.movedTo 1 s.phase (s.idx + 1) (s.cfg.tStab - 1)) := by
  rw [step_of_running hrun.1 hrun.2]
  rcases (s.afterEdges 1).runTick_scan_cases hscan s.pinRead with ⟨hpos, -⟩ | ⟨-, -, e⟩ | ⟨-, hend, -⟩
  · exact absurd htmr hpos.ne'
  · exact e
  · exact absurd hmiss hend

theorem step_of_sweep_end (hrun : s.Running) (hscan : s.phase = .scanA ∨ s.phase = .scanB) (htmr : s.tmr = 0)
    (hend : ¬(rowdecode s.idx s.pinRead = noKey ∧ s.idx < 2)) :
    step s = .next ((s.afterEdges 1).sweepEnds (rowdecode s.idx s.pinRead)) := by
  rw [step_of_running hrun.1 hrun.2]
  rcases (s.afterEdges 1).runTick_scan_cases hscan s.pinRead with ⟨hpos, -⟩ | ⟨-, hmiss, -⟩ | ⟨-, -, e⟩
  · exact absurd htmr hpos.ne'
  · exact absurd hmiss hend
  · exact e

/-! ### The outputs around a sampling tick -/

theorem State.isSampling_iff (s : State) :
    s.isSampling = true ↔ (s.phase = .scanA ∨ s.phase = .scanB) ∧ s.tmr = 0 := by
  simp [State.isSampling]

/-- A scan phase drives its row and leaves the display dark (44_sequencer.md R141). -/
theorem outputs_of_scan (hscan : s.phase = .scanA ∨ s.phase = .scanB) :
    outputs s = ⟨rowPattern s.idx, 0#3, 0#7, eighthLine s.cfg.segLines⟩ := by
  rcases hscan with hphase | hphase <;> rw [outputs, State.rowN, State.digSel, State.seg, hphase]

/-- The row lines are idle where a sweep ends into (44_sequencer.md R141). -/
theorem State.rowN_sweepEnds (s : State) (k : KeyCode) : (s.sweepEnds k).rowN = 0b111#3 := by
  rcases s.sweepEnds_phase k with hphase | hphase <;> rw [State.rowN, hphase]

end Tick

/-- Settles O17: a scan phase's outputs, its tick on a missed row, and its tick at the end of a sweep. -/
theorem samplingTickOfSweep : Obligations.SamplingTickOfSweep := by
  intro s hrun hsampling
  obtain ⟨hscan, htmr⟩ := s.isSampling_iff.1 hsampling
  refine ⟨outputs_of_scan hscan, step_of_row_missed hrun hscan htmr, fun hend => ?_⟩
  have hstep := step_of_sweep_end hrun hscan htmr hend
  refine ⟨fun hphase => ?_, fun hphase => ?_, fun t ht => ?_⟩
  · rw [hstep, State.sweepEnds_of_scanA (s := s.afterEdges 1) hphase]
  · rw [hstep, State.sweepEnds_of_scanB (s := s.afterEdges 1) hphase]
  · cases hstep.symm.trans ht
    exact State.rowN_sweepEnds _ _

section Row
variable {s : State}

/-! ### One row: the waiting ticks and the sampling tick -/

/-- The sampling tick of the row that `s` is driving, and the ticks that lead to it. -/
theorem runTicks_to_sample (hcfg : s.cfg.wellFormed = true) (hscan : s.phase = .scanA ∨ s.phase = .scanB)
    (hrst : s.NoResetFor (s.tmr + 1)) :
    let u := s.movedTo s.tmr s.phase s.idx 0
    u.Running ∧ u.pinRead = (s.inputAt s.tmr).col ∧ runTicks (s.tmr + 1) s = runTicks 1 u := by
  have hphase : s.phase ≠ .dispatch := by rcases hscan with h | h <;> simp [h]
  have hwait := runTicks_of_waiting hcfg hphase le_rfl (hrst.mono (Nat.le_succ _))
  rw [Nat.sub_self] at hwait
  refine ⟨⟨hcfg, ?_⟩, by simp [State.pinRead_eq], runTicks_add_of_next hwait⟩
  simpa [State.rstPin_eq] using hrst s.tmr (Nat.lt_succ_self _)

theorem runTicks_of_row_missed (hcfg : s.cfg.wellFormed = true) (hscan : s.phase = .scanA ∨ s.phase = .scanB)
    (hrst : s.NoResetFor (s.tmr + 1)) (hmiss : rowdecode s.idx (s.inputAt s.tmr).col = noKey ∧ s.idx < 2) :
    runTicks (s.tmr + 1) s = .next (s.movedTo (s.tmr + 1) s.phase (s.idx + 1) (s.cfg.tStab - 1)) := by
  obtain ⟨hrun, hcol, e⟩ := runTicks_to_sample hcfg hscan hrst
  rw [← hcol] at hmiss
  rw [e, runTicks_succ_of_next (step_of_row_missed hrun hscan rfl hmiss)]
  simp

theorem runTicks_of_sweep_end (hcfg : s.cfg.wellFormed = true) (hscan : s.phase = .scanA ∨ s.phase = .scanB)
    (hrst : s.NoResetFor (s.tmr + 1)) (hend : ¬(rowdecode s.idx (s.inputAt s.tmr).col = noKey ∧ s.idx < 2)) :
    runTicks (s.tmr + 1) s =
      .next ((s.afterEdges (s.tmr + 1)).sweepEnds (rowdecode s.idx (s.inputAt s.tmr).col)) := by
  obtain ⟨hrun, hcol, e⟩ := runTicks_to_sample hcfg hscan hrst
  rw [← hcol] at hend ⊢
  rw [e, runTicks_succ_of_next (step_of_sweep_end hrun hscan rfl hend), runTicks_zero, State.movedTo_eq,
    State.setSeq_afterEdges, State.afterEdges_afterEdges]
  exact congrArg _ (State.sweepEnds_setSeq _ _ _ _)

end Row

/-! ### The rows of a sweep -/

/-- The first tick of row `r` of the sweep that starts at `s`. -/
def State.atRow (s : State) (r : Fin 3) : State := s.movedTo (r.val * s.cfg.tStab) s.phase r (s.cfg.tStab - 1)

section Sweep
variable {s : State} {r : Fin 3}

theorem State.atRow_zero (hidx : s.idx = 0) (htmr : s.tmr = s.cfg.tStab - 1) : s.atRow 0 = s := by
  rw [State.atRow, State.movedTo_eq, Fin.val_zero, Nat.zero_mul, State.afterEdges_zero, ← hidx, ← htmr, State.setSeq_self]

/-- A row is driven for `T_STAB` ticks, its sampling tick included (00_scope.md R8). -/
theorem State.atRow_tmr_succ (hcfg : s.cfg.wellFormed = true) : (s.atRow r).tmr + 1 = s.cfg.tStab :=
  Nat.sub_add_cancel ((wellFormed_iff s.cfg).1 hcfg).1

/-- The sampling edge of row `r` ends the last tick of the row (40_input_scanner.md R94). -/
theorem State.firstSamples_row (hcfg : s.cfg.wellFormed = true) (r : Fin 3) :
    s.firstSamples.row r = ((s.atRow r).inputAt (s.atRow r).tmr).col := by
  have hpos := ((wellFormed_iff s.cfg).1 hcfg).1
  have hedge : (s.atRow r).inputAt (s.atRow r).tmr = s.inputAt (0 + (r.val + 1) * s.cfg.tStab - 1) := by
    rw [Nat.succ_mul, Nat.zero_add, Nat.add_sub_assoc hpos]
    simp [State.atRow]
  rw [hedge]
  match r with
  | 0 => rw [Fin.val_zero, Nat.zero_add 1, Nat.one_mul]; rfl
  | 1 | 2 => rfl

theorem State.NoResetFor.atRow (hcfg : s.cfg.wellFormed = true) (h : s.NoResetFor ((r.val + 1) * s.cfg.tStab)) :
    (s.atRow r).NoResetFor ((s.atRow r).tmr + 1) := by
  rw [Nat.succ_mul] at h
  rw [State.atRow_tmr_succ hcfg]
  exact State.NoResetFor.afterEdges h

variable (hcfg : s.cfg.wellFormed = true) (hscan : s.phase = .scanA ∨ s.phase = .scanB) (hidx : s.idx = 0)
  (htmr : s.tmr = s.cfg.tStab - 1)
include hcfg hscan hidx htmr

/-- While the rows give no key the sweep goes on to the next, with no tick between (40_input_scanner.md R92). -/
theorem runTicks_to_row (hrst : s.NoResetFor (r.val * s.cfg.tStab))
    (hmissed : ∀ q < r, rowdecode q (s.firstSamples.row q) = noKey) :
    runTicks (r.val * s.cfg.tStab) s = .next (s.atRow r) := by
  induction r using Fin.induction with
  | zero => rw [State.atRow_zero hidx htmr, Fin.val_zero, Nat.zero_mul, runTicks_zero]
  | succ q ih =>
    have hreach := ih (hrst.mono (Nat.mul_le_mul_right _ q.castSucc_lt_succ.le))
      fun p hp => hmissed p (hp.trans q.castSucc_lt_succ)
    have hmiss : rowdecode q.castSucc (s.firstSamples.row q.castSucc) = noKey ∧ q.castSucc < 2 :=
      ⟨hmissed _ q.castSucc_lt_succ, q.castSucc_lt_last⟩
    rw [State.firstSamples_row hcfg] at hmiss
    have hrow := runTicks_of_row_missed (s := s.atRow q.castSucc) hcfg hscan (State.NoResetFor.atRow hcfg hrst) hmiss
    rw [State.atRow_tmr_succ hcfg] at hrow
    calc runTicks (q.succ.val * s.cfg.tStab) s
      _ = runTicks (q.val * s.cfg.tStab + s.cfg.tStab) s := by rw [Fin.val_succ, Nat.succ_mul]
      _ = runTicks s.cfg.tStab (s.atRow q.castSucc) := runTicks_add_of_next hreach
      _ = .next (s.atRow q.succ) := by rw [hrow]; simp [State.atRow, Nat.succ_mul]

/-- The run of a whole sweep (40_input_scanner.md R94). -/
theorem runTicks_sweep (hrst : s.NoResetFor (sweepRows s.firstSamples * s.cfg.tStab)) :
    runTicks (sweepRows s.firstSamples * s.cfg.tStab) s =
      .next ((s.afterEdges (sweepRows s.firstSamples * s.cfg.tStab)).sweepEnds (sweep s.firstSamples)) := by
  obtain ⟨r, hmissed, hend, hresult, hrows⟩ := s.firstSamples.exists_stopsAt
  rw [hrows] at hrst ⊢
  have hreach := runTicks_to_row hcfg hscan hidx htmr (hrst.mono (Nat.mul_le_mul_right _ r.val.le_succ)) hmissed
  rw [State.firstSamples_row hcfg] at hend hresult
  have hrow := runTicks_of_sweep_end (s := s.atRow r) hcfg hscan (State.NoResetFor.atRow hcfg hrst) hend
  rw [State.atRow_tmr_succ hcfg] at hrow
  calc runTicks ((r.val + 1) * s.cfg.tStab) s
    _ = runTicks (r.val * s.cfg.tStab + s.cfg.tStab) s := by rw [Nat.succ_mul]
    _ = runTicks s.cfg.tStab (s.atRow r) := runTicks_add_of_next hreach
    _ = .next ((s.afterEdges ((r.val + 1) * s.cfg.tStab)).sweepEnds (sweep s.firstSamples)) := by
      rw [hrow, hresult, Nat.succ_mul, ← State.afterEdges_afterEdges]
      rfl

end Sweep

/-- Settles O18: the run up to the row at which the sweep stops, which is the row of the key it finds. -/
theorem sweepIsFunctionOfItsSamples : Obligations.SweepIsFunctionOfItsSamples := by
  intro s hcfg hscan hidx htmr hrst
  obtain ⟨r, hstop⟩ := s.firstSamples.exists_stopsAt
  refine ⟨runTicks_sweep hcfg hscan hidx htmr hrst, fun h hh => ?_, fun hnone => ?_⟩
  · have hkey : sweep s.firstSamples ≠ noKey := by
      intro hnone
      rw [hnone] at hh
      exact absurd h.isLt (by simp [← hh])
    rw [hstop.rows, ← hstop.eq_row hkey, hh]
  · rw [hstop.rows, hstop.eq_two_of_noKey hnone]
    rfl

end Sys2Proof.Machine
end

section
/-! PROOF. The ends of the two scans and the settle delay (41_debouncer.md R101 to R105), with the delays of the display's
phases, which run down and end in the same way (44_sequencer.md R145). -/

namespace Sys2Proof.Machine

variable {s : State}

/-! ### What the end of a scan writes, case by case -/

theorem State.firstScanEnds_noKey (s : State) :
    s.firstScanEnds noKey = ((s.setPrev noKey).setEvt noKey).setSeq .dispatch 0 0 := if_pos rfl

theorem State.firstScanEnds_held {k : KeyCode} (hkey : k ≠ noKey) (hprev : k = s.prev) :
    s.firstScanEnds k = (s.setEvt noKey).setSeq .dispatch 0 0 := (if_neg hkey).trans (if_pos hprev)

theorem State.firstScanEnds_new {k : KeyCode} (hkey : k ≠ noKey) (hprev : k ≠ s.prev) :
    s.firstScanEnds k = (s.setCand k).setSeq .settle 0 (s.cfg.tSettle - 1) := (if_neg hkey).trans (if_neg hprev)

theorem State.reconfirmEnds_match {k : KeyCode} (hcand : k = s.cand) :
    s.reconfirmEnds k = ((s.setPrev s.cand).setEvt s.cand).setSeq .dispatch 0 0 := if_pos hcand

theorem State.reconfirmEnds_mismatch {k : KeyCode} (hcand : k ≠ s.cand) :
    s.reconfirmEnds k = (s.setEvt noKey).setSeq .dispatch 0 0 := if_neg hcand

theorem step_of_first_scan_end (hrun : s.Running) (hphase : s.phase = .scanA) (htmr : s.tmr = 0)
    (hend : ¬(rowdecode s.idx s.pinRead = noKey ∧ s.idx < 2)) :
    step s = .next ((s.afterEdges 1).firstScanEnds (rowdecode s.idx s.pinRead)) := by
  rw [step_of_sweep_end hrun (.inl hphase) htmr hend, State.sweepEnds_of_scanA (s := s.afterEdges 1) hphase]

theorem step_of_second_scan_end (hrun : s.Running) (hphase : s.phase = .scanB) (htmr : s.tmr = 0)
    (hend : ¬(rowdecode s.idx s.pinRead = noKey ∧ s.idx < 2)) :
    step s = .next ((s.afterEdges 1).reconfirmEnds (rowdecode s.idx s.pinRead)) := by
  rw [step_of_sweep_end hrun (.inr hphase) htmr hend, State.sweepEnds_of_scanB (s := s.afterEdges 1) hphase]

/-! ### The obligations of the scan ends -/

/-- Settles O22: `None` at row 2 ends the sweep, for no row is left. -/
theorem firstScanNoneClearsPrev : Obligations.FirstScanNoneClearsPrev := by
  intro s hrun hphase htmr hidx hnone
  have hend : ¬(rowdecode s.idx s.pinRead = noKey ∧ s.idx < 2) := fun hmiss => absurd hmiss.2 (by simp [hidx])
  rw [step_of_first_scan_end hrun hphase htmr hend, hnone, State.firstScanEnds_noKey]
  rfl

/-- Settles O23: a key ends the sweep at any row, and this one is `prev`. -/
theorem firstScanHeldKeyIsDropped : Obligations.FirstScanHeldKeyIsDropped := by
  intro s hrun hphase htmr hkey hprev
  rw [step_of_first_scan_end hrun hphase htmr fun hmiss => hkey hmiss.1,
    State.firstScanEnds_held (s := s.afterEdges 1) hkey hprev]
  rfl

/-- Settles O24: a key ends the sweep at any row, and this one is not `prev`. -/
theorem firstScanNewKeyStartsSettle : Obligations.FirstScanNewKeyStartsSettle := by
  intro s hrun hphase htmr hkey hprev
  rw [step_of_first_scan_end hrun hphase htmr fun hmiss => hkey hmiss.1,
    State.firstScanEnds_new (s := s.afterEdges 1) hkey hprev]
  rfl

/-- Settles O25: the two cases of the scan's end; the invariant's candidate is a key. -/
theorem reconfirmingScanAcceptsOnlyTheSameKey : Obligations.ReconfirmingScanAcceptsOnlyTheSameKey := by
  intro s hrun hphase htmr hend
  have hstep := step_of_second_scan_end hrun hphase htmr hend
  refine ⟨fun hmatch => ?_, fun hmismatch => ?_, fun hinv hnone => ?_⟩
  · rw [hstep, State.reconfirmEnds_match (s := s.afterEdges 1) hmatch]
    rfl
  · rw [hstep, State.reconfirmEnds_mismatch (s := s.afterEdges 1) hmismatch]
    rfl
  · obtain ⟨-, -, -, -, -, hcandidate, -⟩ := hinv
    obtain ⟨hcand, -⟩ := hcandidate (.inr hphase)
    exact fun hmatch => hcand (hmatch.symm.trans hnone)

/-! ### The tick at which a delay ends -/

theorem step_of_settled (hrun : s.Running) (hphase : s.phase = .settle) (htmr : s.tmr = 0) :
    step s = .next (s.movedTo 1 .scanB 0 (s.cfg.tStab - 1)) := by
  rw [step_of_running hrun.1 hrun.2, State.runTick_eq, State.afterEdges_phase, hphase]
  rcases (s.afterEdges 1).settleTick_cases with ⟨hpos, -⟩ | ⟨-, e⟩
  · exact absurd htmr hpos.ne'
  · exact congrArg _ e

theorem step_of_shown (hrun : s.Running) (hphase : s.phase = .showDigit) (htmr : s.tmr = 0) :
    step s = .next (s.movedTo 1 .blank s.idx (s.cfg.tBlank - 1)) := by
  rw [step_of_running hrun.1 hrun.2, State.runTick_eq, State.afterEdges_phase, hphase]
  rcases (s.afterEdges 1).showTick_cases with ⟨hpos, -⟩ | ⟨-, e⟩
  · exact absurd htmr hpos.ne'
  · exact congrArg _ e

/-- The last dark tick of a position (43_display_multiplexer.md R132): on to the next position, or after the last one to the
next loop iteration. -/
def State.positionEnds (s : State) : State :=
  if s.idx < 2 then s.setSeq .showDigit (s.idx + 1) (s.cfg.tOn - 1) else s.setSeq .scanA 0 (s.cfg.tStab - 1)

theorem State.positionEnds_of_lt (hidx : s.idx < 2) :
    s.positionEnds = s.setSeq .showDigit (s.idx + 1) (s.cfg.tOn - 1) := if_pos hidx

theorem State.positionEnds_of_last (hidx : s.idx = 2) : s.positionEnds = s.setSeq .scanA 0 (s.cfg.tStab - 1) :=
  if_neg (by simp [hidx])

/-- Where a position ends its phase and timer are overwritten and not read. -/
theorem State.positionEnds_setSeq (s : State) (p : Phase) (t : Nat) :
    (s.setSeq p s.idx t).positionEnds = s.positionEnds := rfl

theorem step_of_blanked (hrun : s.Running) (hphase : s.phase = .blank) (htmr : s.tmr = 0) :
    step s = .next (s.afterEdges 1).positionEnds := by
  rw [step_of_running hrun.1 hrun.2, State.runTick_eq, State.afterEdges_phase, hphase]
  rcases (s.afterEdges 1).blankTick_cases with ⟨hpos, -⟩ | ⟨-, hidx, e⟩ | ⟨-, hidx, e⟩
  · exact absurd htmr hpos.ne'
  · exact congrArg _ (e.trans (State.positionEnds_of_lt hidx).symm)
  · exact congrArg _ (e.trans (State.positionEnds_of_last (idx_eq_two_of_not_lt hidx)).symm)

/-! ### A whole delay -/

/-- A delay of `d` ticks is `d - 1` waiting ticks and the tick that ends it (44_sequencer.md R145): it leads to where that
tick leads. -/
theorem runTicks_of_delay {t : State} {d : Nat} (hcfg : s.cfg.wellFormed = true) (hphase : s.phase ≠ .dispatch)
    (hd : s.tmr + 1 = d) (hrst : s.NoResetFor d)
    (hend : (s.movedTo s.tmr s.phase s.idx 0).Running → step (s.movedTo s.tmr s.phase s.idx 0) = .next t) :
    runTicks d s = .next t := by
  subst hd
  have hwait := runTicks_of_waiting hcfg hphase le_rfl (hrst.mono s.tmr.le_succ)
  rw [Nat.sub_self] at hwait
  have hrun : (s.movedTo s.tmr s.phase s.idx 0).Running :=
    ⟨hcfg, by simpa [State.rstPin_eq] using hrst s.tmr s.tmr.lt_succ_self⟩
  rw [runTicks_add_of_next hwait, runTicks_succ_of_next (hend hrun), runTicks_zero]

/-! ### The settle delay -/

/-- No row, no digit and no segment in the phases that neither scan nor show (44_sequencer.md R141). -/
theorem State.buses_idle (h : s.phase = .settle ∨ s.phase = .dispatch ∨ s.phase = .blank) :
    s.rowN = 0b111#3 ∧ s.digSel = 0#3 ∧ s.seg = 0#7 := by
  rcases h with hphase | hphase | hphase <;> simp [State.rowN, State.digSel, State.seg, hphase]

theorem runTicks_of_settle (hcfg : s.cfg.wellFormed = true) (hphase : s.phase = .settle)
    (htmr : s.tmr = s.cfg.tSettle - 1) (hrst : s.NoResetFor s.cfg.tSettle) :
    runTicks s.cfg.tSettle s = .next (s.movedTo s.cfg.tSettle .scanB 0 (s.cfg.tStab - 1)) := by
  obtain ⟨-, hpos, -⟩ := (wellFormed_iff s.cfg).1 hcfg
  have hd : s.tmr + 1 = s.cfg.tSettle := htmr ▸ Nat.sub_add_cancel hpos
  refine runTicks_of_delay hcfg (by simp [hphase]) hd hrst fun hrun => ?_
  rw [step_of_settled hrun hphase rfl, ← hd]
  simp

/-- Settles O26: the idle buses, a waiting tick and the last one, and the whole delay. -/
theorem settlePhase : Obligations.SettlePhase := by
  refine ⟨fun s hphase => ?_, fun s hcfg hphase htmr hrst => ?_⟩
  · obtain ⟨hrow, hdig, hseg⟩ := State.buses_idle (.inl hphase)
    refine ⟨hrow, hdig, hseg, fun hrun => ⟨fun hpos => ?_, step_of_settled hrun hphase⟩⟩
    exact step_of_waiting hrun (by simp [hphase]) hpos
  · refine ⟨fun n hn => ⟨_, runTicks_of_waiting hcfg (by simp [hphase]) ?_ (hrst.mono hn.le), hphase⟩, ?_⟩
    · exact htmr ▸ Nat.le_sub_one_of_lt hn
    · exact runTicks_of_settle hcfg hphase htmr hrst

end Sys2Proof.Machine
end

section
/-! PROOF. The run of a refresh pass (43_display_multiplexer.md R130 to R133, R136): each position is lit and then dark, the
positions follow each other, and the pass ends at the next loop start. -/

namespace Sys2Proof.Machine

/-- The first tick of position `p` of the pass that starts at `s`. -/
def State.atPosition (s : State) (p : Fin 3) : State :=
  s.movedTo (p.val * (s.cfg.tOn + s.cfg.tBlank)) .showDigit p (s.cfg.tOn - 1)

variable {s : State} {p : Fin 3}

theorem State.atPosition_zero (hseq : s.SeqIs .showDigit 0 (s.cfg.tOn - 1)) : s.atPosition 0 = s := by
  obtain ⟨hphase, hidx, htmr⟩ := hseq
  rw [State.atPosition, State.movedTo_eq, Fin.val_zero, Nat.zero_mul, State.afterEdges_zero, ← hphase, ← hidx, ← htmr,
    State.setSeq_self]

theorem runTicks_of_show (hcfg : s.cfg.wellFormed = true) (hphase : s.phase = .showDigit)
    (htmr : s.tmr = s.cfg.tOn - 1) (hrst : s.NoResetFor s.cfg.tOn) :
    runTicks s.cfg.tOn s = .next (s.movedTo s.cfg.tOn .blank s.idx (s.cfg.tBlank - 1)) := by
  obtain ⟨-, -, hpos, -⟩ := (wellFormed_iff s.cfg).1 hcfg
  have hd : s.tmr + 1 = s.cfg.tOn := htmr ▸ Nat.sub_add_cancel hpos
  refine runTicks_of_delay hcfg (by simp [hphase]) hd hrst fun hrun => ?_
  rw [step_of_shown hrun hphase rfl, ← hd]
  simp

theorem runTicks_of_blank (hcfg : s.cfg.wellFormed = true) (hphase : s.phase = .blank)
    (htmr : s.tmr = s.cfg.tBlank - 1) (hrst : s.NoResetFor s.cfg.tBlank) :
    runTicks s.cfg.tBlank s = .next (s.afterEdges s.cfg.tBlank).positionEnds := by
  obtain ⟨-, -, -, hpos, -⟩ := (wellFormed_iff s.cfg).1 hcfg
  have hd : s.tmr + 1 = s.cfg.tBlank := htmr ▸ Nat.sub_add_cancel hpos
  refine runTicks_of_delay hcfg (by simp [hphase]) hd hrst fun hrun => ?_
  rw [step_of_blanked hrun hphase rfl, ← hd, ← State.afterEdges_afterEdges]
  exact congrArg _ (State.positionEnds_setSeq ((s.afterEdges s.tmr).afterEdges 1) _ _)

/-- A position of the pass: `T_ON` lit ticks, then `T_BLANK` dark ones (43_display_multiplexer.md R130). -/
theorem runTicks_of_position (hcfg : s.cfg.wellFormed = true) (hphase : s.phase = .showDigit)
    (htmr : s.tmr = s.cfg.tOn - 1) (hrst : s.NoResetFor (s.cfg.tOn + s.cfg.tBlank)) :
    runTicks (s.cfg.tOn + s.cfg.tBlank) s = .next (s.afterEdges (s.cfg.tOn + s.cfg.tBlank)).positionEnds := by
  have hshow := runTicks_of_show hcfg hphase htmr (hrst.mono (Nat.le_add_right _ _))
  have hblank := runTicks_of_blank (s := s.movedTo s.cfg.tOn .blank s.idx (s.cfg.tBlank - 1)) hcfg rfl rfl
    (State.NoResetFor.afterEdges hrst)
  rw [runTicks_add_of_next hshow, ← State.afterEdges_afterEdges]
  exact hblank

/-- The positions follow each other, with no tick between. -/
theorem runTicks_to_position (hcfg : s.cfg.wellFormed = true) (hseq : s.SeqIs .showDigit 0 (s.cfg.tOn - 1))
    (hrst : s.NoResetFor (p.val * (s.cfg.tOn + s.cfg.tBlank))) :
    runTicks (p.val * (s.cfg.tOn + s.cfg.tBlank)) s = .next (s.atPosition p) := by
  induction p using Fin.induction with
  | zero => rw [State.atPosition_zero hseq, Fin.val_zero, Nat.zero_mul, runTicks_zero]
  | succ q ih =>
    rw [Fin.val_succ, Nat.succ_mul, ← Fin.val_castSucc] at hrst ⊢
    have hposition := runTicks_of_position (s := s.atPosition q.castSucc) hcfg rfl rfl (State.NoResetFor.afterEdges hrst)
    rw [State.positionEnds_of_lt q.castSucc_lt_last] at hposition
    rw [runTicks_add_of_next (ih (hrst.mono (Nat.le_add_right _ _)))]
    refine hposition.trans ?_
    simp [State.atPosition, Nat.succ_mul]

/-- The run of a whole pass: its length, and that it writes no register but the sequencer. -/
theorem runTicks_refresh (hcfg : s.cfg.wellFormed = true) (hseq : s.SeqIs .showDigit 0 (s.cfg.tOn - 1))
    (hrst : s.NoResetFor (refreshTicks s.cfg)) :
    runTicks (refreshTicks s.cfg) s = .next (s.movedTo (refreshTicks s.cfg) .scanA 0 (s.cfg.tStab - 1)) := by
  have hlen : refreshTicks s.cfg =
      (2 : Fin 3).val * (s.cfg.tOn + s.cfg.tBlank) + (s.cfg.tOn + s.cfg.tBlank) := Nat.succ_mul 2 _
  rw [hlen] at hrst ⊢
  have hposition := runTicks_of_position (s := s.atPosition 2) hcfg rfl rfl (State.NoResetFor.afterEdges hrst)
  rw [State.positionEnds_of_last rfl] at hposition
  rw [runTicks_add_of_next (runTicks_to_position hcfg hseq (hrst.mono (Nat.le_add_right _ _)))]
  refine hposition.trans ?_
  simp [State.atPosition]

end Sys2Proof.Machine
end

section
/-! PROOF. A held key (41_debouncer.md R106, 70_reset_and_hazards.md R195): the iteration whose first scan returns `prev`
ends where it began, with `evt` `None`. -/

namespace Sys2Proof.Machine

/-- A loop start at which the accepted key is a key of row `h`. -/
structure State.HoldsKeyOfRow (s : State) (h : Fin 3) : Prop where
  cfg : s.cfg.wellFormed = true
  start : s.atLoopStart = true
  key : s.prev.toNat ≤ 9
  row : s.prev.toNat / 4 = h.val

/-- The ticks of an iteration whose first scan returns the held key of row `h` (70_reset_and_hazards.md R195). -/
def heldIterationTicks (c : Cfg) (h : Fin 3) : Nat := (h.val + 1) * c.tStab + 1 + refreshTicks c

variable {s : State} {h : Fin 3}

theorem State.atLoopStart_iff (s : State) : s.atLoopStart = true ↔ s.SeqIs .scanA 0 (s.cfg.tStab - 1) := by
  simp [State.atLoopStart, and_assoc]

/-- At a loop start the write of the sequencer that begins an iteration changes nothing. -/
theorem State.setSeq_of_atLoopStart (hstart : s.atLoopStart = true) : s.setSeq .scanA 0 (s.cfg.tStab - 1) = s := by
  obtain ⟨hphase, hidx, htmr⟩ := s.atLoopStart_iff.1 hstart
  rw [← hphase, ← hidx, ← htmr, State.setSeq_self]

/-- The samples that come after `m` edges are later samples of the state before them. -/
theorem State.samplesAt_afterEdges (hcfg : s.cfg.wellFormed = true) (m n : Nat) :
    (s.afterEdges m).samplesAt n = s.samplesAt (m + n) := by
  have hpos := ((wellFormed_iff s.cfg).1 hcfg).1
  have hedge : ∀ k, 0 < k → (s.afterEdges m).inputAt (n + k - 1) = s.inputAt (m + n + k - 1) := fun k hk => by
    rw [State.inputAt_afterEdges, Nat.add_sub_assoc hk, Nat.add_sub_assoc hk, Nat.add_assoc]
  simp only [State.samplesAt, State.afterEdges_cfg, hedge s.cfg.tStab hpos, hedge (2 * s.cfg.tStab) (by omega),
    hedge (3 * s.cfg.tStab) (by omega)]

theorem State.HoldsKeyOfRow.ne_noKey (hs : s.HoldsKeyOfRow h) : s.prev ≠ noKey := by
  intro hnone
  exact absurd hs.key (by simp [hnone])

/-- The sweep that returns the held key stops at the key's row, and so its length is the row's. -/
theorem State.HoldsKeyOfRow.sweepRows_eq {a : Samples} (hs : s.HoldsKeyOfRow h) (hscan : sweep a = s.prev) :
    sweepRows a = h.val + 1 := by
  obtain ⟨r, hstop⟩ := a.exists_stopsAt
  have hrow := hstop.eq_row (hscan ▸ hs.ne_noKey)
  rw [hstop.rows, ← hrow, hscan, hs.row]

/-- The first scan returns the held key: only `evt` is written (41_debouncer.md R102). -/
theorem State.HoldsKeyOfRow.runTicks_first_scan (hs : s.HoldsKeyOfRow h) (hscan : sweep s.firstSamples = s.prev)
    (hrst : s.NoResetFor ((h.val + 1) * s.cfg.tStab)) :
    runTicks ((h.val + 1) * s.cfg.tStab) s =
      .next ((s.setEvt noKey).movedTo ((h.val + 1) * s.cfg.tStab) .dispatch 0 0) := by
  obtain ⟨hphase, hidx, htmr⟩ := s.atLoopStart_iff.1 hs.start
  rw [← hs.sweepRows_eq hscan] at hrst ⊢
  rw [runTicks_sweep hs.cfg (.inl hphase) hidx htmr hrst, hscan,
    State.sweepEnds_of_scanA (s := s.afterEdges _) hphase,
    State.firstScanEnds_held (s := s.afterEdges _) hs.ne_noKey rfl]
  rfl

/-- A `DISPATCH` tick without an event and the pass after it write nothing but the sequencer (42_counter_dispatch.md R114,
43_display_multiplexer.md R130). -/
theorem runTicks_of_no_event (hcfg : s.cfg.wellFormed = true) (hphase : s.phase = .dispatch) (hevt : s.evt = noKey)
    (hrst : s.NoResetFor (1 + refreshTicks s.cfg)) :
    runTicks (1 + refreshTicks s.cfg) s =
      .next (s.movedTo (1 + refreshTicks s.cfg) .scanA 0 (s.cfg.tStab - 1)) := by
  have hdec : decode s.evt = .instr .none := by rw [hevt]; decide
  have hstep : step s = .next (s.movedTo 1 .showDigit 0 (s.cfg.tOn - 1)) :=
    step_of_dispatch ⟨hcfg, hrst 0 (by omega)⟩ hphase hdec
  have hpass := runTicks_refresh (s := s.movedTo 1 .showDigit 0 (s.cfg.tOn - 1)) hcfg ⟨rfl, rfl, rfl⟩
    (State.NoResetFor.afterEdges hrst)
  rw [Nat.add_comm, runTicks_succ_of_next hstep]
  refine hpass.trans ?_
  simp [Nat.add_comm]

/-- One iteration: the state after it is the loop start before it, past its edges and with no event. -/
theorem State.HoldsKeyOfRow.runTicks_iteration (hs : s.HoldsKeyOfRow h) (hscan : sweep s.firstSamples = s.prev)
    (hrst : s.NoResetFor (heldIterationTicks s.cfg h)) :
    runTicks (heldIterationTicks s.cfg h) s = .next ((s.setEvt noKey).afterEdges (heldIterationTicks s.cfg h)) := by
  rw [heldIterationTicks, Nat.add_assoc] at hrst ⊢
  have hsweep := hs.runTicks_first_scan hscan (hrst.mono (Nat.le_add_right _ _))
  have hrest := runTicks_of_no_event
    (s := (s.setEvt noKey).movedTo ((h.val + 1) * s.cfg.tStab) .dispatch 0 0) hs.cfg rfl rfl
    (State.NoResetFor.afterEdges hrst)
  rw [runTicks_add_of_next hsweep]
  refine hrest.trans ?_
  rw [State.movedTo_eq, State.movedTo_eq, State.setSeq_afterEdges, State.setSeq_setSeq, State.afterEdges_afterEdges]
  exact congrArg _ (State.setSeq_of_atLoopStart (s := (s.setEvt noKey).afterEdges _) hs.start)

/-- While the key is held the iterations repeat: after the first one nothing but the environment goes on. -/
theorem State.HoldsKeyOfRow.runTicks_iterations (hs : s.HoldsKeyOfRow h) (n : Nat)
    (hrst : s.NoResetFor ((n + 1) * heldIterationTicks s.cfg h))
    (hscan : ∀ j < n + 1, sweep (s.samplesAt (j * heldIterationTicks s.cfg h)) = s.prev) :
    runTicks ((n + 1) * heldIterationTicks s.cfg h) s =
      .next ((s.setEvt noKey).afterEdges ((n + 1) * heldIterationTicks s.cfg h)) := by
  induction n with
  | zero =>
    have hfirst := hscan 0 Nat.one_pos
    rw [Nat.zero_mul] at hfirst
    rw [Nat.zero_add, Nat.one_mul] at hrst ⊢
    exact hs.runTicks_iteration hfirst hrst
  | succ n ih =>
    rw [Nat.succ_mul (n + 1)] at hrst ⊢
    have hreach := ih (hrst.mono (Nat.le_add_right _ _)) fun j hj => hscan j (Nat.lt_succ_of_lt hj)
    have hs' : ((s.setEvt noKey).afterEdges ((n + 1) * heldIterationTicks s.cfg h)).HoldsKeyOfRow h :=
      ⟨hs.cfg, hs.start, hs.key, hs.row⟩
    have hscan' : sweep ((s.setEvt noKey).afterEdges ((n + 1) * heldIterationTicks s.cfg h)).firstSamples = s.prev := by
      rw [State.firstSamples, State.samplesAt_afterEdges (s := s.setEvt noKey) hs.cfg]
      exact hscan (n + 1) (Nat.lt_succ_self _)
    rw [runTicks_add_of_next hreach]
    refine (hs'.runTicks_iteration hscan' (State.NoResetFor.afterEdges hrst)).trans ?_
    rw [← State.afterEdges_afterEdges]
    rfl

/-- Settles O28, by the run of the iterations; for `n = 0` nothing has run. -/
theorem heldKeyProducesNoFurtherEvent : Obligations.HeldKeyProducesNoFurtherEvent := by
  intro s n h len hcfg hstart hkey hrow hrst hscan
  have hs : s.HoldsKeyOfRow h := ⟨hcfg, hstart, hkey, hrow⟩
  cases n with
  | zero =>
    rw [Nat.zero_mul, runTicks_zero]
    exact ⟨s, rfl, ⟨rfl, rfl, rfl, rfl⟩, rfl, hstart, fun hpos => absurd hpos (Nat.lt_irrefl 0)⟩
  | succ n => exact ⟨_, hs.runTicks_iterations n hrst hscan, ⟨rfl, rfl, rfl, rfl⟩, rfl, hstart, fun _ => rfl⟩

end Sys2Proof.Machine
end

section
/-! PROOF. The DISPATCH tick (42_counter_dispatch.md R110, R115): it hands `evt` to the dispatcher and lasts one tick; every
operation that completes ends at the first digit and leaves the Debouncer alone; a reserved code is a fault that no run meets. -/

namespace Sys2Proof.Machine

variable {s t : State}

/-! ### The tick as an outcome of the dispatcher -/

theorem step_eq_dispatchTick (hrun : s.Running) (hphase : s.phase = .dispatch) :
    step s = (s.afterEdges 1).dispatchTick := by
  rw [step_of_running hrun.1 hrun.2, State.runTick_eq, State.afterEdges_phase, hphase]

/-- A DISPATCH tick that has a next state has run an operation, for a reserved code has none. -/
theorem exec_of_dispatch_next (hrun : s.Running) (hphase : s.phase = .dispatch) (hstep : step s = .next t) :
    ∃ i, exec i (s.afterEdges 1) = .next t := by
  rw [step_eq_dispatchTick hrun hphase] at hstep
  rcases (s.afterEdges 1).dispatchTick_cases with ⟨i, -, e⟩ | ⟨-, e⟩
  · exact ⟨i, e.symm.trans hstep⟩
  · cases e.symm.trans hstep

/-- A code that the operation map rejects is given no meaning (42_counter_dispatch.md R115). -/
theorem State.dispatchTick_of_reserved (h : decode s.evt = .reservedKeyCode s.evt) :
    s.dispatchTick = .fault .invalidKeyCode := by
  rcases s.dispatchTick_cases with ⟨i, hdec, -⟩ | ⟨-, e⟩
  · cases hdec.symm.trans h
  · exact e

/-! ### The frame of the operations -/

/-- What every operation that completes has in common (42_counter_dispatch.md R110). -/
theorem exec_frame {i : Instr} (h : exec i s = .next t) :
    SameDebouncer s t ∧ t.SeqIs .showDigit 0 (s.cfg.tOn - 1) := by
  rcases exec_cases i s with ⟨k, -, -, e⟩ | ⟨k, -, -, e⟩ | ⟨-, e⟩ | ⟨-, e⟩ | ⟨-, e⟩
  case inl => cases h.symm.trans e
  all_goals
    cases h.symm.trans e
    exact ⟨⟨rfl, rfl, rfl⟩, rfl, rfl, rfl⟩

theorem outputs_of_buses_idle (h : s.phase = .settle ∨ s.phase = .dispatch ∨ s.phase = .blank) :
    outputs s = idleOutputs s.cfg := by
  obtain ⟨hrow, hdig, hseg⟩ := State.buses_idle h
  rw [outputs, idleOutputs, hrow, hdig, hseg]

/-! ### The faults of a run -/

/-- From a state of the invariant on, the one fault that can hold the machine is the counter overflow. -/
theorem runTicks_fault_of_inv {n : Nat} {f : Fault} (h : s.Inv) (hrun : runTicks n s = .fault f) :
    ∃ k, f = .counterOverflow k := by
  have hblock : ((Block.running s).ticks n).Inv := Block.Inv.ticks (b := .running s) h n
  rw [runTicks_eq] at hrun
  cases hend : (Block.running s).ticks n with
  | running u | refused r => rw [hend] at hrun; cases hrun
  | faulted g u =>
    rw [hend] at hrun hblock
    cases hrun
    exact hblock.1

/-! ### The obligations of the DISPATCH tick -/

/-- Settles O3: the state that `exec` is given is the one past one edge. -/
theorem dispatchTickRunsDecodedOperation : Obligations.DispatchTickRunsDecodedOperation :=
  fun _ _ hrun hphase hdec _ => step_of_dispatch hrun hphase hdec

/-- Settles O36: the frame is that of the operation which the tick has run. -/
theorem dispatchTickFrame : Obligations.DispatchTickFrame := by
  refine fun s hphase => ⟨outputs_of_buses_idle (.inr (.inl hphase)), fun t hrun hstep => ?_⟩
  obtain ⟨i, hexec⟩ := exec_of_dispatch_next hrun hphase hstep
  obtain ⟨hdebouncer, hseq⟩ := exec_frame hexec
  exact ⟨hdebouncer, hseq, stepKeepsConfigurationAndTakesOneInput s t hstep⟩

/-- Settles O5: the codes 10 to 14 are the reserved ones, and a run from reset keeps the block's invariant, under which only
an overflow stops the machine. -/
theorem reservedCodeFaultsAndIsUnreachable : Obligations.ReservedCodeFaultsAndIsUnreachable := by
  constructor
  · intro s hrun hphase hlow hhigh
    rw [step_eq_dispatchTick hrun hphase]
    exact State.dispatchTick_of_reserved ((decode_eq_reserved_iff s.evt).2 ⟨hlow, hhigh⟩)
  · intro c l e n hcfg hfault
    obtain ⟨k, hk⟩ := runTicks_fault_of_inv (resetWith_inv hcfg l e) hfault
    cases hk

end Sys2Proof.Machine
end

section
/-! PROOF. The four operations (42_counter_dispatch.md R111 to R114): the code of each, its whole next state, and the increment
that does not fit. -/

namespace Sys2Proof.Machine

/-- The code of an operation is the only one that selects it (30_encoding.md R79). -/
theorem decode_eq_instr_iff (w : KeyCode) (i : Instr) : decode w = .instr i ↔ w = encode i :=
  ⟨fun h => (encode_of_decode h).symm, fun h => h ▸ decode_encode i⟩

/-- The snapshot after an increment is taken from the new count and the new total (42_counter_dispatch.md R111). -/
theorem State.countKey_recompute (s : State) (k : Fin 8) :
    (s.countKey k).recompute k = { s with
      counts := s.counts.set k (s.counts[k] + 1), total := s.total + 1,
      snap := digits (value s.cfg.pctRound s.mode (s.counts[k] + 1) (s.total + 1)) } := by
  simp [State.recompute, State.countKey]

/-- A mode that is not the one held is the one a toggle gives: there are two (10_state.md R23). -/
theorem Mode.eq_flip_of_ne : ∀ {m n : Mode}, m ≠ n → m = n.flip
  | .rawCount, .percentage, _ | .percentage, .rawCount, _ => rfl
  | .rawCount, .rawCount, h | .percentage, .percentage, h => absurd rfl h

/-- Settles O6: the two cases of `COUNT`, each excluded by the other's bound on the count. -/
theorem countIncrementsAndRecomputes : Obligations.CountIncrementsAndRecomputes := by
  refine fun k s => ⟨fun w => decode_eq_count_iff w k, fun hfits => ?_, fun hmax => ?_⟩
  · rcases execCount_cases k s with ⟨hfull, -⟩ | ⟨-, e⟩
    · exact absurd hfits hfull.not_gt
    · rw [State.countKey_recompute] at e
      exact e
  · rcases execCount_cases k s with ⟨-, e⟩ | ⟨hfits, -⟩
    · exact e
    · omega

/-- Settles O7. -/
theorem resetClearsCounters : Obligations.ResetClearsCounters :=
  ⟨fun w => decode_eq_instr_iff w .reset, fun _ => rfl⟩

/-- Settles O8: the other mode is the flipped one. -/
theorem toggleFlipsModeAndShowsKeyZero : Obligations.ToggleFlipsModeAndShowsKeyZero := by
  refine ⟨fun w => decode_eq_instr_iff w .toggle, fun s m hne => ?_⟩
  rw [Mode.eq_flip_of_ne hne]
  rfl

/-- Settles O9. -/
theorem noneOnlyAdvancesSequencer : Obligations.NoneOnlyAdvancesSequencer :=
  ⟨fun w => decode_eq_instr_iff w .none, fun _ => rfl⟩

end Sys2Proof.Machine
end

section
/-! PROOF. The snapshot arithmetic (42_counter_dispatch.md R116 to R118): the value to show, the percentage with its rounding and
its range, the digits. -/

namespace Sys2Proof.Machine

/-! ### The value to show -/

@[simp] theorem value_rawCount (r : PctRound) (c t : Nat) : value r .rawCount c t = c := rfl

@[simp] theorem value_percentage_zero (r : PctRound) (c : Nat) : value r .percentage c 0 = 0 := rfl

theorem value_percentage_of_pos (r : PctRound) (c : Nat) {t : Nat} (ht : 0 < t) :
    value r .percentage c t = pct r c t := if_neg ht.ne'

/-- Settles O13. -/
theorem valueToShow : Obligations.ValueToShow :=
  fun r c _ => ⟨value_rawCount r c _, value_percentage_zero r c, value_percentage_of_pos r c⟩

/-! ### The percentage -/

theorem pct_nearestHalfUp (c t : Nat) : pct .nearestHalfUp c t = (200 * c + t) / (2 * t) := rfl

theorem pct_truncate (c t : Nat) : pct .truncate c t = 100 * c / t := rfl

/-- The nearest integer to `100 * c / t`, an exact half up: `p - 1/2 <= 100 * c / t < p + 1/2` with the fractions cleared. -/
theorem pct_nearestHalfUp_bounds (c : Nat) {t : Nat} (ht : 0 < t) :
    2 * (pct .nearestHalfUp c t * t) ≤ 2 * (100 * c) + t ∧
      2 * (100 * c) + t < 2 * (pct .nearestHalfUp c t * t) + 2 * t := by
  rw [pct_nearestHalfUp, Nat.mul_left_comm, ← Nat.mul_assoc 2 100 c]
  exact ⟨Nat.div_mul_le_self _ _, Nat.lt_div_mul_add (Nat.mul_pos two_pos ht)⟩

/-- The fractional part of `100 * c / t` is dropped. -/
theorem pct_truncate_bounds (c : Nat) {t : Nat} (ht : 0 < t) :
    pct .truncate c t * t ≤ 100 * c ∧ 100 * c < pct .truncate c t * t + t := by
  rw [pct_truncate]
  exact ⟨Nat.div_mul_le_self _ _, Nat.lt_div_mul_add ht⟩

/-- A key that has the whole total shows 100, under both roundings. -/
theorem pct_self (r : PctRound) {t : Nat} (ht : 0 < t) : pct r t t = 100 := by
  cases r with
  | nearestHalfUp =>
    rw [pct_nearestHalfUp, Nat.div_eq_iff (Nat.mul_pos two_pos ht)]
    omega
  | truncate => exact Nat.mul_div_cancel 100 ht

theorem pct_zero (r : PctRound) {t : Nat} (ht : 0 < t) : pct r 0 t = 0 := by
  cases r with
  | nearestHalfUp => exact Nat.div_eq_of_lt (by omega)
  | truncate => exact Nat.zero_div t

/-- A larger count does not show a smaller percentage of the same total. -/
theorem pct_mono (r : PctRound) {c d : Nat} (t : Nat) (hle : c ≤ d) : pct r c t ≤ pct r d t := by
  cases r with
  | nearestHalfUp => exact Nat.div_le_div_right (by omega)
  | truncate => exact Nat.div_le_div_right (by omega)

theorem pct_le_hundred (r : PctRound) {c t : Nat} (ht : 0 < t) (hle : c ≤ t) : pct r c t ≤ 100 :=
  pct_self r ht ▸ pct_mono r t hle

theorem le_sumCounts (v : Vector Nat 8) (k : Fin 8) : v[k] ≤ sumCounts v := by
  fin_cases k <;> simp [sumCounts] <;> omega

/-- Settles O14: the bounds are those of the floor quotient; the invariant makes `total` the sum of the counts, so no count is
above it. -/
theorem percentageRoundsAndStaysInRange : Obligations.PercentageRoundsAndStaysInRange := by
  refine ⟨fun c t ht => ?_, fun r t ht => ⟨pct_self r ht, pct_zero r ht⟩, fun s k hinv ht => ?_⟩
  · obtain ⟨hnearLow, hnearHigh⟩ := pct_nearestHalfUp_bounds c ht
    exact ⟨pct_nearestHalfUp c t, pct_truncate c t, hnearLow, hnearHigh, pct_truncate_bounds c ht⟩
  · obtain ⟨-, -, hsum, -⟩ := hinv
    have hle : s.counts[k] ≤ s.total := hsum ▸ le_sumCounts s.counts k
    exact ⟨hle, pct_le_hundred _ ht hle⟩

/-! ### The digits -/

/-- The digits depend on the clamped value alone. -/
theorem digits_congr {v w : Nat} (h : min v 999 = min w 999) : digits v = digits w := by
  simp only [digits, h]

/-- Saturation (42_counter_dispatch.md R118). -/
theorem digits_of_le {v : Nat} (h : 999 ≤ v) : digits v = #v[9, 9, 9] :=
  calc digits v = digits 999 := digits_congr (by omega)
    _ = #v[9, 9, 9] := by decide

theorem digits_hundreds (v : Nat) : (digits v)[0].val = min v 999 / 100 := rfl

theorem digits_tens (v : Nat) : (digits v)[1].val = min v 999 / 10 % 10 := rfl

theorem digits_units (v : Nat) : (digits v)[2].val = min v 999 % 10 := rfl

/-- The digits are those of the clamped value. -/
theorem digits_recompose (v : Nat) :
    100 * (digits v)[0].val + 10 * (digits v)[1].val + (digits v)[2].val = min v 999 := by
  rw [digits_hundreds, digits_tens, digits_units]
  omega

/-- Settles O15. -/
theorem digitsClampAndSplit : Obligations.DigitsClampAndSplit :=
  fun v => ⟨digits_hundreds v, digits_tens v, digits_units v, digits_recompose v, digits_of_le⟩

end Sys2Proof.Machine
end

section
/-! PROOF. The outputs of the display phases (43_display_multiplexer.md R130 to R133): an output lasts as long as the delay
that holds it, so a position is a lit stretch and a dark one, and a pass is its three positions in turn. -/

namespace Sys2Proof.Machine

variable {s : State}

/-! ### The outputs of a delay -/

/-- Every tick of a delay shows the same outputs, the tick that ends it among them: they do not depend on the timer
(44_sequencer.md R141, R145). -/
theorem outputTrace_of_waiting {n : Nat} (hcfg : s.cfg.wellFormed = true) (hphase : s.phase ≠ .dispatch)
    (hn : n ≤ s.tmr + 1) (hrst : s.NoResetFor n) : outputTrace n s = List.replicate n (outputs s) := by
  induction n with
  | zero => rfl
  | succ n ih =>
    have hwait := runTicks_of_waiting hcfg hphase (Nat.le_of_succ_le_succ hn) (hrst.mono n.le_succ)
    have hlast : outputTrace 1 (s.movedTo n s.phase s.idx (s.tmr - n)) = [outputs s] := rfl
    rw [outputTrace_add_of_next hwait, ih (Nat.le_of_succ_le hn) (hrst.mono n.le_succ), hlast, List.replicate_succ']

theorem outputTrace_of_delay {d : Nat} (hcfg : s.cfg.wellFormed = true) (hphase : s.phase ≠ .dispatch) (hd : 0 < d)
    (htmr : s.tmr = d - 1) (hrst : s.NoResetFor d) : outputTrace d s = List.replicate d (outputs s) :=
  outputTrace_of_waiting hcfg hphase (by rw [htmr, Nat.sub_add_cancel hd]) hrst

/-! ### The lit and the dark stretch of a position -/

/-- A position is shown by its digit line and the pattern of its snapshot digit (43_display_multiplexer.md R131). -/
theorem outputs_of_show (hphase : s.phase = .showDigit) :
    outputs s = ⟨0b111#3, digitPattern s.idx, romRead s.cfg s.snap[s.idx], eighthLine s.cfg.segLines⟩ := by
  rw [outputs, State.rowN, State.digSel, State.seg, hphase]

theorem outputTrace_of_show (hcfg : s.cfg.wellFormed = true) (hphase : s.phase = .showDigit)
    (htmr : s.tmr = s.cfg.tOn - 1) (hrst : s.NoResetFor s.cfg.tOn) :
    outputTrace s.cfg.tOn s = List.replicate s.cfg.tOn (outputs s) := by
  obtain ⟨-, -, hpos, -⟩ := (wellFormed_iff s.cfg).1 hcfg
  exact outputTrace_of_delay hcfg (by simp [hphase]) hpos htmr hrst

theorem outputTrace_of_blank (hcfg : s.cfg.wellFormed = true) (hphase : s.phase = .blank)
    (htmr : s.tmr = s.cfg.tBlank - 1) (hrst : s.NoResetFor s.cfg.tBlank) :
    outputTrace s.cfg.tBlank s = List.replicate s.cfg.tBlank (idleOutputs s.cfg) := by
  obtain ⟨-, -, -, hpos, -⟩ := (wellFormed_iff s.cfg).1 hcfg
  rw [← outputs_of_buses_idle (.inr (.inr hphase))]
  exact outputTrace_of_delay hcfg (by simp [hphase]) hpos htmr hrst

/-! ### The positions of a pass -/

/-- The outputs of one position of a pass: its digit lit for `T_ON` ticks, then `T_BLANK` dark ticks. -/
def positionTrace (c : Cfg) (snap : Vector Digit 3) (p : Fin 3) : List Outputs :=
  List.replicate c.tOn ⟨0b111#3, digitPattern p, romRead c snap[p], eighthLine c.segLines⟩ ++
    List.replicate c.tBlank (idleOutputs c)

theorem passTrace_eq (c : Cfg) (snap : Vector Digit 3) :
    passTrace c snap = (List.finRange 3).flatMap (positionTrace c snap) := rfl

theorem outputTrace_of_position (hcfg : s.cfg.wellFormed = true) (hphase : s.phase = .showDigit)
    (htmr : s.tmr = s.cfg.tOn - 1) (hrst : s.NoResetFor (s.cfg.tOn + s.cfg.tBlank)) :
    outputTrace (s.cfg.tOn + s.cfg.tBlank) s = positionTrace s.cfg s.snap s.idx := by
  have hshown := hrst.mono (Nat.le_add_right _ _)
  have hblank := outputTrace_of_blank (s := s.movedTo s.cfg.tOn .blank s.idx (s.cfg.tBlank - 1)) hcfg rfl rfl
    (State.NoResetFor.afterEdges hrst)
  rw [outputTrace_add_of_next (runTicks_of_show hcfg hphase htmr hshown), outputTrace_of_show hcfg hphase htmr hshown,
    outputs_of_show hphase]
  exact congrArg _ hblank

/-- The first `n` positions of a pass show their digits in turn. -/
theorem outputTrace_of_positions {n : Nat} (hcfg : s.cfg.wellFormed = true)
    (hseq : s.SeqIs .showDigit 0 (s.cfg.tOn - 1)) (hn : n ≤ 3) (hrst : s.NoResetFor (n * (s.cfg.tOn + s.cfg.tBlank))) :
    outputTrace (n * (s.cfg.tOn + s.cfg.tBlank)) s =
      ((List.finRange 3).take n).flatMap (positionTrace s.cfg s.snap) := by
  induction n with
  | zero => rw [Nat.zero_mul]; rfl
  | succ n ih =>
    rw [Nat.succ_mul] at hrst ⊢
    have hbefore := hrst.mono (Nat.le_add_right _ _)
    have hposition : outputTrace (s.cfg.tOn + s.cfg.tBlank) (s.atPosition ⟨n, hn⟩) = positionTrace s.cfg s.snap ⟨n, hn⟩ :=
      outputTrace_of_position (s := s.atPosition ⟨n, hn⟩) hcfg rfl rfl (State.NoResetFor.afterEdges hrst)
    rw [outputTrace_add_of_next (runTicks_to_position (p := ⟨n, hn⟩) hcfg hseq hbefore), hposition,
      ih (Nat.le_of_succ_le hn) hbefore, ← List.take_append_getElem (by simpa using hn), List.flatMap_append]
    simp

/-! ### The obligations of the display -/

/-- Settles O31: the outputs of a lit tick, which stay while the timer runs down, and the run of the lit stretch. -/
theorem showPhase : Obligations.ShowPhase := by
  refine ⟨fun s hphase => ⟨outputs_of_show hphase, fun hrun => ⟨?_, step_of_shown hrun hphase⟩⟩, ?_⟩
  · exact step_of_waiting hrun (by simp [hphase])
  · exact fun s hcfg hphase htmr hrst =>
      ⟨outputTrace_of_show hcfg hphase htmr hrst, runTicks_of_show hcfg hphase htmr hrst⟩

/-- Settles O32: the idle outputs, a waiting tick, and the last dark tick by position. -/
theorem blankPhase : Obligations.BlankPhase := by
  refine ⟨fun s hphase => ⟨outputs_of_buses_idle (.inr (.inr hphase)), fun hrun => ⟨?_, fun htmr hidx => ?_,
    fun htmr hidx => ?_⟩⟩, fun s => outputTrace_of_blank⟩
  · exact step_of_waiting hrun (by simp [hphase])
  · exact (step_of_blanked hrun hphase htmr).trans (congrArg _ (State.positionEnds_of_lt hidx))
  · exact (step_of_blanked hrun hphase htmr).trans (congrArg _ (State.positionEnds_of_last hidx))

/-- Settles O33: the trace is that of the three positions, and the run is that of the whole pass. -/
theorem refreshPassShowsTheSnapshot : Obligations.RefreshPassShowsTheSnapshot :=
  fun _ hcfg hseq hrst => ⟨outputTrace_of_positions hcfg hseq le_rfl hrst, runTicks_refresh hcfg hseq hrst⟩

end Sys2Proof.Machine
end

section
/-! PROOF. The output function (44_sequencer.md R141, R153): a phase scans, idles or shows a digit, and the buses are one row
of three accordingly. -/

namespace Sys2Proof.Machine

variable {s : State}

/-- What a phase does with the pins (44_sequencer.md R141). -/
theorem Phase.scans_or_idles_or_shows (p : Phase) :
    (p = .scanA ∨ p = .scanB) ∨ (p = .settle ∨ p = .dispatch ∨ p = .blank) ∨ p = .showDigit := by
  cases p <;> simp

theorem State.buses_of_scan (hscan : s.phase = .scanA ∨ s.phase = .scanB) :
    s.rowN = rowPattern s.idx ∧ s.digSel = 0#3 ∧ s.seg = 0#7 := by
  rcases hscan with hphase | hphase <;> simp [State.rowN, State.digSel, State.seg, hphase]

theorem State.buses_of_show (hphase : s.phase = .showDigit) :
    s.rowN = 0b111#3 ∧ s.digSel = digitPattern s.idx ∧ s.seg = romRead s.cfg s.snap[s.idx] := by
  simp [State.rowN, State.digSel, State.seg, hphase]

/-! ### The values of the two one-hot buses -/

/-- A driven row line is the one low line (30_encoding.md R72). -/
theorem rowPattern_values (r : Fin 3) : rowPattern r = 0b110#3 ∨ rowPattern r = 0b101#3 ∨ rowPattern r = 0b011#3 := by
  revert r; decide

/-- A selected digit is the one high line (30_encoding.md R74). -/
theorem digitPattern_values (p : Fin 3) :
    digitPattern p = 0b001#3 ∨ digitPattern p = 0b010#3 ∨ digitPattern p = 0b100#3 := by
  revert p; decide

theorem digitPattern_ne_zero (p : Fin 3) : digitPattern p ≠ 0#3 := by
  revert p; decide

/-! ### The obligations of the output function -/

/-- Settles O29: the buses of the three kinds of phase, and the eighth line of each number of lines. -/
theorem outputFunction : Obligations.OutputFunction := by
  intro s
  refine ⟨State.buses_of_scan, State.buses_idle, State.buses_of_show, fun hseven => ?_, fun height => ?_⟩
  · rw [outputs, hseven]
    rfl
  · rw [outputs, height]
    rfl

/-- Settles O30: only a scan phase drives a row, and only `SHOW` drives the display. -/
theorem keypadAndDisplayNeverActiveTogether : Obligations.KeypadAndDisplayNeverActiveTogether := by
  intro s
  rcases s.phase.scans_or_idles_or_shows with hscan | hidle | hshow
  · obtain ⟨hrow, hdig, hseg⟩ := State.buses_of_scan hscan
    exact ⟨fun _ => hscan, fun h => absurd hdig h, .inr hdig, fun h => absurd hseg h,
      .inr (hrow ▸ rowPattern_values s.idx), .inl hdig⟩
  · obtain ⟨hrow, hdig, hseg⟩ := State.buses_idle hidle
    exact ⟨fun h => absurd hrow h, fun h => absurd hdig h, .inl hrow, fun h => absurd hseg h, .inl hrow, .inl hdig⟩
  · obtain ⟨hrow, hdig, -⟩ := State.buses_of_show hshow
    exact ⟨fun h => absurd hrow h, fun _ => hshow, .inl hrow, fun _ => hdig ▸ digitPattern_ne_zero s.idx, .inl hrow,
      .inr (hdig ▸ digitPattern_values s.idx)⟩

end Sys2Proof.Machine
end

section
/-! PROOF. The control transfers of the sequencer (44_sequencer.md R143 to R145): the reset, the waiting ticks, and the row of
the table that each other tick takes. -/

namespace Sys2Proof.Machine

variable {s t : State}

/-! ### The reset -/

/-- After a reset the environment goes on as it would have (44_sequencer.md R143; log entry 2). -/
theorem State.inputAt_resetWith (s : State) (n : Nat) :
    (State.resetWith s.cfg (s.inputs.drop 1) (s.edges + 1)).inputAt n = s.inputAt (n + 1) := by
  rw [State.inputAt_congr (s := s.afterEdges 1) (t := State.resetWith _ _ _) rfl rfl, State.inputAt_afterEdges,
    Nat.add_comm]

/-- Settles O44, by induction on the ticks: the reset state of one edge is reset again at the next one. -/
theorem rstGivesTheResetState : Obligations.RstGivesTheResetState := by
  intro s n hcfg hrst
  induction n generalizing s with
  | zero => rw [runTicks_succ_of_next (step_of_rst hcfg (hrst 0 Nat.one_pos)), runTicks_zero]
  | succ n ih =>
    have hlater : ∀ i < n + 1, ((State.resetWith s.cfg (s.inputs.drop 1) (s.edges + 1)).inputAt i).rst = true :=
      fun i hi => by rw [State.inputAt_resetWith]; exact hrst (i + 1) (Nat.succ_lt_succ hi)
    rw [runTicks_succ_of_next (step_of_rst hcfg (hrst 0 (Nat.succ_pos _))), ih (State.resetWith _ _ _) hcfg hlater]
    simp [Nat.add_comm, Nat.add_left_comm]

/-! ### The waiting ticks -/

/-- No tick but a waiting one stays at its (phase, idx) (44_sequencer.md R144). -/
theorem TickArm.leaves {c : BitVec 4} (h : TickArm s c t) (htmr : s.tmr = 0) :
    t.phase ≠ s.phase ∨ t.idx ≠ s.idx := by
  cases h with
  | wait _ hpos => exact absurd htmr hpos.ne'
  | nextRow => exact .inr (by simp)
  | scanNone hphase | scanHeld hphase | scanNew hphase | settled hphase | confirmed hphase | rejected hphase
  | count _ hphase | clear hphase | toggle hphase | noEvent hphase | shown hphase | nextDigit hphase
  | passEnds hphase => exact .inl (by simp [hphase])

/-- The tick that ends a phase's stay at an `idx`; only `DISPATCH` can fault there. -/
theorem exists_step_leaving (hrun : s.Running) (hphase : s.phase ≠ .dispatch) (htmr : s.tmr = 0) :
    ∃ t, step s = .next t ∧ (t.phase ≠ s.phase ∨ t.idx ≠ s.idx) := by
  rcases step_completes_or_faults hrun.1 with ⟨t, hstep⟩ | ⟨-, hdispatch, -⟩
  · exact ⟨t, hstep, (step_arm_of_running hrun hstep).leaves htmr⟩
  · exact absurd hdispatch hphase

/-- Settles O34: the run of the waiting ticks, and the tick with `tmr = 0` after them. -/
theorem waitingTicksOnlyCountDown : Obligations.WaitingTicksOnlyCountDown := by
  refine ⟨fun s => step_of_waiting, fun s hcfg hphase hrst => ?_⟩
  have hwait : ∀ n ≤ s.tmr, runTicks n s = .next { s.afterEdges n with tmr := s.tmr - n } :=
    fun n hn => runTicks_of_waiting hcfg hphase hn (hrst.mono (Nat.le_succ_of_le hn))
  have hrun : (s.movedTo s.tmr s.phase s.idx (s.tmr - s.tmr)).Running :=
    ⟨hcfg, by simpa [State.rstPin_eq] using hrst s.tmr s.tmr.lt_succ_self⟩
  obtain ⟨t, hstep, hleaves⟩ := exists_step_leaving hrun hphase (Nat.sub_self _)
  exact ⟨hwait, t, (runTicks_add_of_next (hwait s.tmr le_rfl)).trans (runTicks_succ_of_next hstep), hleaves⟩

/-! ### The table of control transfers -/

/-- Where one form of the next state is known, its sequencer value is that of the next state. -/
theorem seqIs_of_step {u : State} {p : Phase} {i : Fin 3} {m : Nat} (hstep : step s = .next t) (h : step s = .next u)
    (hu : u.SeqIs p i m) : t.SeqIs p i m := by
  cases hstep.symm.trans h
  exact hu

/-- A `SCAN_B` sweep ends in `DISPATCH`, whether it confirms or not (41_debouncer.md R104). -/
theorem State.reconfirmEnds_seqIs (s : State) (k : KeyCode) : (s.reconfirmEnds k).SeqIs .dispatch 0 0 := by
  rcases s.reconfirmEnds_cases k with ⟨-, e⟩ | ⟨-, e⟩ <;> rw [e] <;> exact ⟨rfl, rfl, rfl⟩

/-- In a legal state only the phases that wait have `tmr > 0` (10_state.md R31). -/
theorem State.SeqLegal.ne_dispatch_of_waiting (hseq : s.SeqLegal) (htmr : 0 < s.tmr) : s.phase ≠ .dispatch := by
  obtain ⟨-, -, -, hdispatch, -⟩ := hseq
  exact fun hphase => htmr.ne' (hdispatch hphase).2

/-- Settles O35: each row of the table is the tick of its phase. -/
theorem controlTransfers : Obligations.ControlTransfers := by
  refine fun s t hcfg hseq hstep => ⟨fun hrst => ?_, fun hrst => ⟨fun hpos => ?_, fun htmr => ?_⟩⟩
  · cases hstep.symm.trans (step_of_rst hcfg hrst)
    rfl
  · obtain ⟨hphase, hidx, -⟩ :=
      seqIs_of_step hstep (step_of_waiting ⟨hcfg, hrst⟩ (hseq.ne_dispatch_of_waiting hpos) hpos) ⟨rfl, rfl, rfl⟩
    exact ⟨hphase, hidx⟩
  · have hrun : s.Running := ⟨hcfg, hrst⟩
    refine ⟨fun hphase => ⟨fun hnone hidx => ?_, fun hnone hidx => ?_, fun hkey hprev => ?_, fun hkey hprev => ?_⟩,
      fun hphase => ?_, fun hphase => ⟨fun hmiss => ?_, fun hend => ?_⟩, fun hphase => ?_, fun hphase => ?_,
      fun hphase => ⟨fun hidx => ?_, fun hidx => ?_⟩⟩
    · exact seqIs_of_step hstep (step_of_row_missed hrun (.inl hphase) htmr ⟨hnone, hidx⟩) ⟨hphase, rfl, rfl⟩
    · exact seqIs_of_step hstep (firstScanNoneClearsPrev s hrun hphase htmr hidx hnone) ⟨rfl, rfl, rfl⟩
    · exact seqIs_of_step hstep (firstScanHeldKeyIsDropped s hrun hphase htmr hkey hprev) ⟨rfl, rfl, rfl⟩
    · exact seqIs_of_step hstep (firstScanNewKeyStartsSettle s hrun hphase htmr hkey hprev) ⟨rfl, rfl, rfl⟩
    · exact seqIs_of_step hstep (step_of_settled hrun hphase htmr) ⟨rfl, rfl, rfl⟩
    · exact seqIs_of_step hstep (step_of_row_missed hrun (.inr hphase) htmr hmiss) ⟨hphase, rfl, rfl⟩
    · exact seqIs_of_step hstep (step_of_second_scan_end hrun hphase htmr hend) (State.reconfirmEnds_seqIs _ _)
    · obtain ⟨-, hshow, -⟩ := (dispatchTickFrame s hphase).2 t hrun hstep
      exact hshow
    · exact seqIs_of_step hstep (step_of_shown hrun hphase htmr) ⟨rfl, rfl, rfl⟩
    · exact seqIs_of_step hstep ((step_of_blanked hrun hphase htmr).trans
        (congrArg _ (State.positionEnds_of_lt hidx))) ⟨rfl, rfl, rfl⟩
    · exact seqIs_of_step hstep ((step_of_blanked hrun hphase htmr).trans
        (congrArg _ (State.positionEnds_of_last hidx))) ⟨rfl, rfl, rfl⟩

end Sys2Proof.Machine
end

section
/-! PROOF. Progress (44_sequencer.md R154): a bound on the ticks to the next loop start, which every tick lowers until the tick
that reaches it. -/

namespace Sys2Proof.Machine

variable {s t : State}

/-! ### The ticks that are left -/

/-- The most ticks from the end of a phase's stay at `idx = i` to the next loop start (44_sequencer.md R144). -/
def Phase.ticksAfter (c : Cfg) (i : Fin 3) : Phase → Nat
  | .scanA => (2 - i.val) * c.tStab + (c.tSettle + 3 * c.tStab + 1 + refreshTicks c)
  | .settle => 3 * c.tStab + 1 + refreshTicks c
  | .scanB => (2 - i.val) * c.tStab + (1 + refreshTicks c)
  | .dispatch => refreshTicks c
  | .showDigit => c.tBlank + (2 - i.val) * (c.tOn + c.tBlank)
  | .blank => (2 - i.val) * (c.tOn + c.tBlank)

/-- The most ticks from `s` to the next loop start. -/
def State.ticksLeft (s : State) : Nat := s.tmr + 1 + s.phase.ticksAfter s.cfg s.idx

/-- The bound of 44_sequencer.md R154: two sweeps of three rows, the settle delay, a `DISPATCH` tick and a refresh pass. -/
def progressBound (c : Cfg) : Nat := 2 * 3 * c.tStab + c.tSettle + 1 + refreshTicks c

theorem Phase.delay_add_ticksAfter_le (c : Cfg) (p : Phase) (i : Fin 3) :
    p.delay c + p.ticksAfter c i ≤ progressBound c := by
  have hrows : (2 - i.val) * c.tStab ≤ 2 * c.tStab := Nat.mul_le_mul_right _ (Nat.sub_le _ _)
  have hpositions : (2 - i.val) * (c.tOn + c.tBlank) ≤ 2 * (c.tOn + c.tBlank) :=
    Nat.mul_le_mul_right _ (Nat.sub_le _ _)
  cases p <;> simp only [Phase.delay, Phase.ticksAfter, progressBound, refreshTicks] <;> omega

theorem State.ticksLeft_le (hseq : s.SeqLegal) : s.ticksLeft ≤ progressBound s.cfg := by
  obtain ⟨htmr, -⟩ := s.seqLegal_iff.1 hseq
  exact (Nat.add_le_add_right htmr _).trans (Phase.delay_add_ticksAfter_le _ _ _)

/-! ### A tick lowers them -/

/-- Of the rows or positions of `d` ticks after `i`, one is the next and the others come after that. -/
theorem idx_ticks_succ {i : Fin 3} (hidx : i < 2) (d : Nat) : (2 - i.val) * d = d + (2 - (i + 1).val) * d := by
  match i with
  | 0 => exact (Nat.succ_mul 1 d).trans (Nat.add_comm _ _)
  | 1 => simp

/-- The stay that a transfer begins is paid for by the ticks after the one it ends. -/
theorem State.ticksLeft_setSeq_lt {u : State} {p q : Phase} {i : Fin 3} (hcfg : s.cfg.wellFormed = true)
    (hu : u.cfg = s.cfg) (hphase : s.phase = q)
    (hpaid : p.delay s.cfg + p.ticksAfter s.cfg i ≤ q.ticksAfter s.cfg s.idx) :
    (u.setSeq p i (p.delay s.cfg - 1)).ticksLeft < s.ticksLeft := by
  subst hphase
  have hpos := p.delay_pos hcfg
  simp only [State.ticksLeft, State.setSeq_tmr, State.setSeq_phase, State.setSeq_cfg, State.setSeq_idx, hu]
  omega

theorem TickArm.atLoopStart_or_ticksLeft_lt {c : BitVec 4} (h : TickArm s c t) (hcfg : s.cfg.wellFormed = true) :
    t.SeqIs .scanA 0 (t.cfg.tStab - 1) ∨ t.ticksLeft < s.ticksLeft := by
  cases h with
  | wait _ hpos => exact .inr (Nat.add_lt_add_right (Nat.add_lt_add_right (Nat.sub_one_lt hpos.ne') 1) _)
  | nextRow hphase _ _ hidx =>
    have hrows := idx_ticks_succ hidx s.cfg.tStab
    rcases hphase with hphase | hphase <;> rw [hphase]
    · exact .inr (State.ticksLeft_setSeq_lt (p := .scanA) hcfg rfl hphase
        (by simp only [Phase.delay, Phase.ticksAfter]; omega))
    · exact .inr (State.ticksLeft_setSeq_lt (p := .scanB) hcfg rfl hphase
        (by simp only [Phase.delay, Phase.ticksAfter]; omega))
  | scanNone hphase | scanHeld hphase | confirmed hphase | rejected hphase =>
    exact .inr (State.ticksLeft_setSeq_lt (p := .dispatch) hcfg rfl hphase
      (by simp only [Phase.delay, Phase.ticksAfter]; omega))
  | scanNew hphase =>
    exact .inr (State.ticksLeft_setSeq_lt (p := .settle) hcfg rfl hphase
      (by simp only [Phase.delay, Phase.ticksAfter]; omega))
  | settled hphase =>
    exact .inr (State.ticksLeft_setSeq_lt (p := .scanB) hcfg rfl hphase
      (by simp only [Phase.delay, Phase.ticksAfter, Fin.val_zero]; omega))
  | count _ hphase | clear hphase | toggle hphase | noEvent hphase =>
    exact .inr (State.ticksLeft_setSeq_lt (p := .showDigit) hcfg rfl hphase
      (by simp only [Phase.delay, Phase.ticksAfter, refreshTicks, Fin.val_zero]; omega))
  | shown hphase => exact .inr (State.ticksLeft_setSeq_lt (p := .blank) hcfg rfl hphase le_rfl)
  | nextDigit hphase _ hidx =>
    have hpositions := idx_ticks_succ hidx (s.cfg.tOn + s.cfg.tBlank)
    exact .inr (State.ticksLeft_setSeq_lt (p := .showDigit) hcfg rfl hphase
      (by simp only [Phase.delay, Phase.ticksAfter]; omega))
  | passEnds => exact .inl ⟨rfl, rfl, rfl⟩

/-! ### The run to the next loop start -/

/-- By induction on the ticks that may be left: the step overflows, or it reaches the loop start, or it leaves fewer. -/
theorem exists_runTicks_atLoopStart {n : Nat} (hinv : s.Inv) (hleft : s.ticksLeft ≤ n) (hrst : s.NoResetFor n) :
    ∃ m, 1 ≤ m ∧ m ≤ n ∧
      ((∃ t, runTicks m s = .next t ∧ t.SeqIs .scanA 0 (t.cfg.tStab - 1)) ∨
        ∃ k, runTicks m s = .fault (.counterOverflow k)) := by
  induction n generalizing s with
  | zero => exact absurd hleft (by simp [State.ticksLeft])
  | succ n ih =>
    rcases onlyCounterOverflowStopsTheBlock s hinv with ⟨t, hstep⟩ | ⟨k, hfault, -⟩
    · have harm := step_arm_of_running ⟨hinv.1, hrst 0 n.succ_pos⟩ hstep
      rcases harm.atLoopStart_or_ticksLeft_lt hinv.1 with hstart | hlt
      · exact ⟨1, le_rfl, n.succ_pos, .inl ⟨t, runTicks_succ_of_next hstep, hstart⟩⟩
      · obtain ⟨-, hinputs, hedges⟩ := harm.env_eq
        have hrst' : t.NoResetFor n := fun i hi => by
          rw [State.inputAt_congr hinputs hedges, State.inputAt_afterEdges]
          exact hrst (1 + i) (by omega)
        obtain ⟨m, -, hm, hend⟩ :=
          ih (everyStepKeepsInv s t hinv hstep) (Nat.le_of_lt_succ (hlt.trans_le hleft)) hrst'
        refine ⟨m + 1, Nat.succ_pos m, Nat.succ_le_succ hm, ?_⟩
        rw [runTicks_succ_of_next hstep]
        exact hend
    · exact ⟨1, le_rfl, n.succ_pos, .inr ⟨k, runTicks_succ_of_fault hfault (fun i hi => absurd hi i.not_lt_zero)⟩⟩

/-- Settles O37: the invariant's sequencer values have no more ticks left than the bound. -/
theorem progressToTheNextLoopStart : Obligations.ProgressToTheNextLoopStart := by
  intro s hinv hrst
  have hseq : s.SeqLegal := by
    obtain ⟨-, -, -, -, hseq, -⟩ := hinv
    exact hseq
  exact exists_runTicks_atLoopStart hinv (State.ticksLeft_le hseq) hrst

end Sys2Proof.Machine
end

section
/-! PROOF. The outputs of a sweep (40_input_scanner.md R90): each row driven is a stretch of `T_STAB` ticks, up to the row at
which the sweep stops. -/

namespace Sys2Proof.Machine

variable {s : State}

/-- The outputs of one row of a sweep. -/
def rowTrace (c : Cfg) (r : Fin 3) : List Outputs :=
  List.replicate c.tStab ⟨rowPattern r, 0#3, 0#7, eighthLine c.segLines⟩

theorem sweepTrace_eq (c : Cfg) (rows : Nat) : sweepTrace c rows = ((List.finRange 3).take rows).flatMap (rowTrace c) := rfl

theorem outputTrace_of_row (hcfg : s.cfg.wellFormed = true) (hscan : s.phase = .scanA ∨ s.phase = .scanB)
    (htmr : s.tmr = s.cfg.tStab - 1) (hrst : s.NoResetFor s.cfg.tStab) :
    outputTrace s.cfg.tStab s = rowTrace s.cfg s.idx := by
  have hphase : s.phase ≠ .dispatch := by rcases hscan with h | h <;> simp [h]
  rw [outputTrace_of_delay hcfg hphase ((wellFormed_iff s.cfg).1 hcfg).1 htmr hrst, outputs_of_scan hscan, rowTrace]

section Sweep
variable (hcfg : s.cfg.wellFormed = true) (hscan : s.phase = .scanA ∨ s.phase = .scanB) (hidx : s.idx = 0)
  (htmr : s.tmr = s.cfg.tStab - 1)
include hcfg hscan hidx htmr

/-- The first `n` rows of a sweep are driven in turn, while the rows before the last of them give no key. -/
theorem outputTrace_of_rows {n : Nat} (hn : n ≤ 3) (hrst : s.NoResetFor (n * s.cfg.tStab))
    (hmissed : ∀ q : Fin 3, q.val + 1 < n → rowdecode q (s.firstSamples.row q) = noKey) :
    outputTrace (n * s.cfg.tStab) s = sweepTrace s.cfg n := by
  induction n with
  | zero => rw [Nat.zero_mul]; rfl
  | succ n ih =>
    rw [Nat.succ_mul] at hrst ⊢
    have hbefore := hrst.mono (Nat.le_add_right _ _)
    have hrow : outputTrace s.cfg.tStab (s.atRow ⟨n, hn⟩) = rowTrace s.cfg ⟨n, hn⟩ :=
      outputTrace_of_row (s := s.atRow ⟨n, hn⟩) hcfg hscan rfl (State.NoResetFor.afterEdges hrst)
    have hreach := runTicks_to_row (r := ⟨n, hn⟩) hcfg hscan hidx htmr hbefore
      fun q hq => hmissed q (Nat.succ_lt_succ hq)
    rw [outputTrace_add_of_next hreach, hrow,
      ih (Nat.le_of_succ_le hn) hbefore fun q hq => hmissed q (Nat.lt_succ_of_lt hq), sweepTrace_eq, sweepTrace_eq,
      ← List.take_append_getElem (by simpa using hn), List.flatMap_append]
    simp

theorem outputTrace_sweep (hrst : s.NoResetFor (sweepRows s.firstSamples * s.cfg.tStab)) :
    outputTrace (sweepRows s.firstSamples * s.cfg.tStab) s = sweepTrace s.cfg (sweepRows s.firstSamples) := by
  obtain ⟨r, hstop⟩ := s.firstSamples.exists_stopsAt
  rw [hstop.rows] at hrst ⊢
  exact outputTrace_of_rows hcfg hscan hidx htmr r.isLt hrst fun q hq => hstop.missed q (Nat.lt_of_succ_lt_succ hq)

end Sweep

end Sys2Proof.Machine
end

section
/-! PROOF. One loop iteration (44_sequencer.md R150): the Debouncer's run, the `DISPATCH` tick and the refresh pass, tick by tick
against the iteration function, with the outputs of each part (R152). -/

namespace Sys2Proof.Machine

variable {s t : State} {a b : Samples}

/-! ### What the parts of an iteration do past edges of the environment -/

theorem State.firstScanEnds_afterEdges (s : State) (n : Nat) (k : KeyCode) :
    (s.afterEdges n).firstScanEnds k = (s.firstScanEnds k).afterEdges n := by
  by_cases hkey : k = noKey
  · rw [hkey, State.firstScanEnds_noKey, State.firstScanEnds_noKey]; rfl
  · by_cases hprev : k = s.prev
    · rw [State.firstScanEnds_held hkey hprev, State.firstScanEnds_held (s := s.afterEdges n) hkey hprev]; rfl
    · rw [State.firstScanEnds_new hkey hprev, State.firstScanEnds_new (s := s.afterEdges n) hkey hprev]; rfl

/-- The end of the reconfirming scan overwrites the sequencer and does not read it (41_debouncer.md R104). -/
theorem State.reconfirmEnds_movedTo (s : State) (n : Nat) (p : Phase) (i : Fin 3) (m : Nat) (k : KeyCode) :
    (s.movedTo n p i m).reconfirmEnds k = (s.reconfirmEnds k).afterEdges n := by
  by_cases hcand : k = s.cand
  · rw [State.reconfirmEnds_match hcand, State.reconfirmEnds_match (s := s.movedTo n p i m) hcand]; rfl
  · rw [State.reconfirmEnds_mismatch hcand, State.reconfirmEnds_mismatch (s := s.movedTo n p i m) hcand]; rfl

/-- An outcome `n` edges later: a next state is further on, a fault is the same. -/
def outcomeAfterEdges (n : Nat) : Host.Outcome State Fault Refusal → Host.Outcome State Fault Refusal
  | .next t => .next (t.afterEdges n)
  | .fault f => .fault f
  | .refused r => .refused r

/-- An operation overwrites the sequencer and does not read it (42_counter_dispatch.md R110). -/
theorem exec_movedTo (i : Instr) (s : State) (n : Nat) (p : Phase) (j : Fin 3) (m : Nat) :
    exec i (s.movedTo n p j m) = outcomeAfterEdges n (exec i s) := by
  cases i with
  | count k =>
    rw [exec, exec, execCount, execCount, apply_ite (outcomeAfterEdges n)]
    rfl
  | reset | toggle | none => rfl

theorem State.dispatchTick_movedTo (s : State) (n : Nat) (p : Phase) (j : Fin 3) (m : Nat) :
    (s.movedTo n p j m).dispatchTick = outcomeAfterEdges n s.dispatchTick := by
  rcases s.dispatchTick_cases with ⟨i, hdec, e⟩ | ⟨hdec, e⟩
  · rw [State.dispatchTick_of_decode (s := s.movedTo n p j m) hdec, e, exec_movedTo]
  · rw [State.dispatchTick_of_reserved (s := s.movedTo n p j m) hdec, e]; rfl

/-! ### The Debouncer's run as a function of the samples -/

theorem State.reconfirms_iff (s : State) (a : Samples) :
    s.reconfirms a = true ↔ sweep a ≠ noKey ∧ sweep a ≠ s.prev := by
  simp [State.reconfirms]

theorem State.debounceTicks_of_reconfirms (h : s.reconfirms a = true) :
    s.debounceTicks a b = sweepRows a * s.cfg.tStab + s.cfg.tSettle + sweepRows b * s.cfg.tStab := by
  rw [State.debounceTicks, if_pos h, Nat.add_assoc]

theorem State.debounceTicks_of_not_reconfirms (h : ¬s.reconfirms a = true) :
    s.debounceTicks a b = sweepRows a * s.cfg.tStab := by
  rw [State.debounceTicks, if_neg h, Nat.add_zero]

/-- No key or the held key: the run ends with the first scan (41_debouncer.md R101, R102). -/
theorem State.firstScanEnds_of_not_reconfirms (h : ¬s.reconfirms a = true) :
    s.firstScanEnds (sweep a) = (s.debounce a b).setSeq .dispatch 0 0 := by
  by_cases hkey : sweep a = noKey
  · rw [State.debounce, if_pos hkey, hkey, State.firstScanEnds_noKey]
  · have hprev : sweep a = s.prev := by
      by_contra hne
      exact h ((s.reconfirms_iff a).2 ⟨hkey, hne⟩)
    rw [State.debounce, if_neg hkey, if_pos hprev, State.firstScanEnds_held hkey hprev]

/-- A new key: the run ends with the second scan (41_debouncer.md R103, R104). -/
theorem State.reconfirmEnds_of_reconfirms (h : s.reconfirms a = true) :
    (s.setCand (sweep a)).reconfirmEnds (sweep b) = (s.debounce a b).setSeq .dispatch 0 0 := by
  obtain ⟨hkey, hprev⟩ := (s.reconfirms_iff a).1 h
  rw [State.debounce, if_neg hkey, if_neg hprev]
  by_cases hmatch : sweep b = sweep a
  · rw [if_pos hmatch, State.reconfirmEnds_match (s := s.setCand (sweep a)) hmatch]; rfl
  · rw [if_neg hmatch, State.reconfirmEnds_mismatch (s := s.setCand (sweep a)) hmatch]

theorem State.debounce_env (s : State) (a b : Samples) :
    (s.debounce a b).cfg = s.cfg ∧ (s.debounce a b).inputs = s.inputs ∧ (s.debounce a b).edges = s.edges := by
  unfold State.debounce
  split_ifs <;> exact ⟨rfl, rfl, rfl⟩

theorem legalKey_sweep (a : Samples) : legalKey (sweep a) := by
  obtain ⟨r, hstop⟩ := a.exists_stopsAt
  rw [hstop.result]
  exact rowdecode_range _ _

/-- The Debouncer accepts what the scanner found, or nothing (10_state.md R28). -/
theorem State.debounce_evt_legal (s : State) (a b : Samples) : legalKey (s.debounce a b).evt := by
  unfold State.debounce
  split_ifs
  · exact .inr rfl
  · exact .inr rfl
  · exact legalKey_sweep a
  · exact .inr rfl

/-- After the Debouncer's run the `DISPATCH` tick runs an operation (42_counter_dispatch.md R115, R119). -/
theorem State.dispatchTick_completes_or_overflows (h : legalKey s.evt) :
    (∃ t, s.dispatchTick = .next t) ∨ ∃ k, s.dispatchTick = .fault (.counterOverflow k) := by
  rcases s.dispatchTick_cases with ⟨i, -, e⟩ | ⟨hdec, -⟩
  · rw [e]
    exact (exec_completes_or_overflows i s).imp_right fun ⟨k, _, _, hfault⟩ => ⟨k, hfault⟩
  · exact absurd hdec (decode_ne_reserved_of_legalKey h)

/-! ### The states along an iteration -/

/-- Ticks of the first sweep of the iteration that starts at `s`. -/
def State.firstSweepTicks (s : State) : Nat := sweepRows s.firstSamples * s.cfg.tStab

/-- Ticks of the Debouncer's run in the iteration that starts at `s`. -/
def State.dispatchOffset (s : State) : Nat := s.debounceTicks s.firstSamples s.secondSamples

/-- The first tick of the settle delay, for a new key (41_debouncer.md R103). -/
def State.atSettle (s : State) : State :=
  (s.setCand (sweep s.firstSamples)).movedTo s.firstSweepTicks .settle 0 (s.cfg.tSettle - 1)

/-- The first tick of the second sweep. -/
def State.atSecondSweep (s : State) : State :=
  (s.setCand (sweep s.firstSamples)).movedTo (s.firstSweepTicks + s.cfg.tSettle) .scanB 0 (s.cfg.tStab - 1)

/-- The `DISPATCH` tick. -/
def State.atDispatch (s : State) : State :=
  (s.debounce s.firstSamples s.secondSamples).movedTo s.dispatchOffset .dispatch 0 0

theorem State.atDispatch_phase (s : State) : s.atDispatch.phase = .dispatch := rfl

/-- The second sweep of the iteration takes its second samples. -/
theorem State.firstSamples_atSecondSweep (hcfg : s.cfg.wellFormed = true) :
    s.atSecondSweep.firstSamples = s.secondSamples :=
  State.samplesAt_afterEdges (s := s.setCand (sweep s.firstSamples)) hcfg _ 0

/-! ### Stretches of a run with their outputs -/

/-- `n` ticks that show `out` and lead from `s` to `t`. -/
structure Stretch (s : State) (n : Nat) (out : List Outputs) (t : State) : Prop where
  run : runTicks n s = .next t
  trace : outputTrace n s = out

theorem Stretch.trans {u : State} {m n : Nat} {out out' : List Outputs} (h : Stretch s m out t)
    (h' : Stretch t n out' u) : Stretch s (m + n) (out ++ out') u :=
  ⟨(runTicks_add_of_next h.run).trans h'.run,
    (outputTrace_add_of_next h.run).trans (congrArg₂ (· ++ ·) h.trace h'.trace)⟩

theorem Stretch.of_step (h : step s = .next t) : Stretch s 1 [outputs s] t :=
  ⟨runTicks_succ_of_next h, outputTrace_succ_of_next h⟩

section Debounce
variable (hcfg : s.cfg.wellFormed = true)
include hcfg

theorem sweep_stretch (hscan : s.phase = .scanA ∨ s.phase = .scanB) (hidx : s.idx = 0)
    (htmr : s.tmr = s.cfg.tStab - 1) (hrst : s.NoResetFor (sweepRows s.firstSamples * s.cfg.tStab)) :
    Stretch s (sweepRows s.firstSamples * s.cfg.tStab) (sweepTrace s.cfg (sweepRows s.firstSamples))
      ((s.afterEdges (sweepRows s.firstSamples * s.cfg.tStab)).sweepEnds (sweep s.firstSamples)) :=
  ⟨runTicks_sweep hcfg hscan hidx htmr hrst, outputTrace_sweep hcfg hscan hidx htmr hrst⟩

theorem first_sweep_stretch (hstart : s.atLoopStart = true) (hrst : s.NoResetFor s.firstSweepTicks) :
    Stretch s s.firstSweepTicks (sweepTrace s.cfg (sweepRows s.firstSamples))
      ((s.firstScanEnds (sweep s.firstSamples)).afterEdges s.firstSweepTicks) := by
  obtain ⟨hphase, hidx, htmr⟩ := s.atLoopStart_iff.1 hstart
  rw [← State.firstScanEnds_afterEdges, ← State.sweepEnds_of_scanA (s := s.afterEdges _) hphase]
  exact sweep_stretch hcfg (.inl hphase) hidx htmr hrst

theorem settle_stretch (hrst : s.atSettle.NoResetFor s.cfg.tSettle) :
    Stretch s.atSettle s.cfg.tSettle (List.replicate s.cfg.tSettle (idleOutputs s.cfg)) s.atSecondSweep := by
  have hrun := runTicks_of_settle (s := s.atSettle) hcfg rfl rfl hrst
  obtain ⟨-, hpos, -⟩ := (wellFormed_iff s.cfg).1 hcfg
  have htrace := outputTrace_of_delay (s := s.atSettle) hcfg (by simp [State.atSettle]) hpos rfl hrst
  rw [outputs_of_buses_idle (.inl rfl)] at htrace
  exact ⟨hrun.trans (by simp [State.atSettle, State.atSecondSweep]), htrace⟩

theorem second_sweep_stretch (hnew : s.reconfirms s.firstSamples = true)
    (hrst : s.atSecondSweep.NoResetFor (sweepRows s.secondSamples * s.cfg.tStab)) :
    Stretch s.atSecondSweep (sweepRows s.secondSamples * s.cfg.tStab) (sweepTrace s.cfg (sweepRows s.secondSamples))
      s.atDispatch := by
  have hlen : s.dispatchOffset = s.firstSweepTicks + s.cfg.tSettle + sweepRows s.secondSamples * s.cfg.tStab :=
    State.debounceTicks_of_reconfirms hnew
  have hmoved : s.atSecondSweep.afterEdges (sweepRows s.secondSamples * s.cfg.tStab) =
      (s.setCand (sweep s.firstSamples)).movedTo s.dispatchOffset .scanB 0 (s.cfg.tStab - 1) := by
    simp [State.atSecondSweep, hlen]
  have hends : (s.atSecondSweep.afterEdges (sweepRows s.secondSamples * s.cfg.tStab)).sweepEnds (sweep s.secondSamples) =
      s.atDispatch := by
    rw [State.sweepEnds_of_scanB (s := s.atSecondSweep.afterEdges _) rfl, hmoved, State.reconfirmEnds_movedTo,
      State.reconfirmEnds_of_reconfirms hnew]
    rfl
  rw [← hends]
  rw [← State.firstSamples_atSecondSweep hcfg] at hrst ⊢
  exact sweep_stretch (s := s.atSecondSweep) hcfg (.inr rfl) rfl rfl hrst

theorem debounce_stretch (hstart : s.atLoopStart = true) (hrst : s.NoResetFor s.dispatchOffset) :
    Stretch s s.dispatchOffset (s.debounceTrace s.firstSamples s.secondSamples) s.atDispatch := by
  by_cases hnew : s.reconfirms s.firstSamples = true
  · have hlen : s.dispatchOffset = s.firstSweepTicks + (s.cfg.tSettle + sweepRows s.secondSamples * s.cfg.tStab) :=
      (State.debounceTicks_of_reconfirms hnew).trans (Nat.add_assoc _ _ _)
    obtain ⟨hkey, hprev⟩ := (s.reconfirms_iff _).1 hnew
    rw [hlen] at hrst ⊢
    have hfirst := first_sweep_stretch hcfg hstart (hrst.mono (Nat.le_add_right _ _))
    rw [State.firstScanEnds_new hkey hprev] at hfirst
    have hsettle : s.atSettle.NoResetFor (s.cfg.tSettle + sweepRows s.secondSamples * s.cfg.tStab) :=
      State.NoResetFor.afterEdges hrst
    have hsecond : s.atSecondSweep.NoResetFor (sweepRows s.secondSamples * s.cfg.tStab) := by
      rw [← Nat.add_assoc] at hrst
      exact State.NoResetFor.afterEdges hrst
    rw [State.debounceTrace, if_pos hnew]
    exact hfirst.trans ((settle_stretch hcfg (hsettle.mono (Nat.le_add_right _ _))).trans
      (second_sweep_stretch hcfg hnew hsecond))
  · have hlen : s.dispatchOffset = s.firstSweepTicks := State.debounceTicks_of_not_reconfirms hnew
    have hfirst := first_sweep_stretch hcfg hstart (hlen ▸ hrst)
    rw [State.firstScanEnds_of_not_reconfirms (b := s.secondSamples) hnew] at hfirst
    rw [State.debounceTrace, if_neg hnew, List.append_nil, State.atDispatch, hlen]
    exact hfirst

end Debounce

/-! ### From the dispatch to the next loop start -/

theorem State.atDispatch_inputAt (s : State) (n : Nat) : s.atDispatch.inputAt n = s.inputAt (s.dispatchOffset + n) := by
  obtain ⟨-, hinputs, hedges⟩ := s.debounce_env s.firstSamples s.secondSamples
  rw [State.atDispatch, State.movedTo_eq, State.inputAt_setSeq, State.inputAt_afterEdges]
  exact State.inputAt_congr hinputs hedges _

theorem State.atDispatch_cfg (s : State) : s.atDispatch.cfg = s.cfg := (s.debounce_env _ _).1

theorem State.atDispatch_running (hcfg : s.cfg.wellFormed = true) (hrst : (s.inputAt s.dispatchOffset).rst = false) :
    s.atDispatch.Running :=
  ⟨s.atDispatch_cfg.symm ▸ hcfg, (congrArg Input.rst (s.atDispatch_inputAt 0)).trans hrst⟩

/-- The `DISPATCH` tick of the iteration is that of the iteration function, past the edges up to it. -/
theorem step_atDispatch (hcfg : s.cfg.wellFormed = true) (hrst : (s.inputAt s.dispatchOffset).rst = false) :
    step s.atDispatch =
      outcomeAfterEdges (s.dispatchOffset + 1) (s.debounce s.firstSamples s.secondSamples).dispatchTick := by
  have hmoved : s.atDispatch.afterEdges 1 =
      (s.debounce s.firstSamples s.secondSamples).movedTo (s.dispatchOffset + 1) .dispatch 0 0 := by
    simp [State.atDispatch]
  rw [step_eq_dispatchTick (State.atDispatch_running hcfg hrst) s.atDispatch_phase, hmoved, State.dispatchTick_movedTo]

theorem dispatch_stretch (hstep : step s.atDispatch = .next t) : Stretch s.atDispatch 1 [idleOutputs s.cfg] t := by
  have htick := Stretch.of_step hstep
  rw [outputs_of_buses_idle (.inr (.inl s.atDispatch_phase)), State.atDispatch_cfg] at htick
  exact htick

/-- The pass after the `DISPATCH` tick shows the snapshot then held and leads to the loop start (43_display_multiplexer.md
R130). -/
theorem refresh_stretch (hcfg : s.cfg.wellFormed = true) (hstep : step s.atDispatch = .next t)
    (hrst : s.NoResetFor (s.dispatchOffset + 1 + refreshTicks s.cfg)) :
    Stretch t (refreshTicks s.cfg) (passTrace s.cfg t.snap) (t.toLoopStart.afterEdges (refreshTicks s.cfg)) := by
  have hrun := State.atDispatch_running hcfg (hrst _ (by omega))
  obtain ⟨-, hseq, hcfg', hinputs, hedges⟩ := (dispatchTickFrame s.atDispatch s.atDispatch_phase).2 t hrun hstep
  rw [State.atDispatch_cfg] at hseq hcfg'
  have hrst' : t.NoResetFor (refreshTicks s.cfg) := fun i hi => by
    rw [State.inputAt_congr (s := s.atDispatch.afterEdges 1) hinputs hedges, State.inputAt_afterEdges,
      State.atDispatch_inputAt]
    exact hrst _ (by omega)
  rw [← hcfg'] at hcfg hseq hrst' ⊢
  obtain ⟨htrace, hpass⟩ := refreshPassShowsTheSnapshot t hcfg hseq hrst'
  exact ⟨hpass, htrace⟩

/-- The whole iteration, where the `DISPATCH` tick completes. -/
theorem iteration_stretch (h : s.WholeIteration)
    (hnext : (s.debounce s.firstSamples s.secondSamples).dispatchTick = .next t) :
    Stretch s (s.iterationTicks s.firstSamples s.secondSamples)
      (s.debounceTrace s.firstSamples s.secondSamples ++ [idleOutputs s.cfg] ++ passTrace s.cfg t.snap)
      (t.toLoopStart.afterEdges (s.iterationTicks s.firstSamples s.secondSamples)) := by
  obtain ⟨hcfg, hstart, hrst⟩ := h
  have hlen : s.iterationTicks s.firstSamples s.secondSamples = s.dispatchOffset + 1 + refreshTicks s.cfg := rfl
  rw [hlen] at hrst ⊢
  have hstep := step_atDispatch hcfg (hrst _ (by omega))
  rw [hnext] at hstep
  have hend : (t.afterEdges (s.dispatchOffset + 1)).toLoopStart.afterEdges (refreshTicks s.cfg) =
      t.toLoopStart.afterEdges (s.dispatchOffset + 1 + refreshTicks s.cfg) := by
    simp [State.toLoopStart]
  rw [← hend]
  exact ((debounce_stretch hcfg hstart (hrst.mono (by omega))).trans (dispatch_stretch hstep)).trans
    (refresh_stretch hcfg hstep hrst)

/-- Where the `DISPATCH` tick faults, the fault holds the machine to the end of the iteration (60_exceptions.md R161). -/
theorem runTicks_iteration_of_fault {f : Fault} (h : s.WholeIteration)
    (hfault : (s.debounce s.firstSamples s.secondSamples).dispatchTick = .fault f) :
    runTicks (s.iterationTicks s.firstSamples s.secondSamples) s = .fault f := by
  obtain ⟨hcfg, hstart, hrst⟩ := h
  have hlen : s.iterationTicks s.firstSamples s.secondSamples = s.dispatchOffset + (refreshTicks s.cfg + 1) :=
    Nat.add_right_comm _ _ _
  rw [hlen] at hrst ⊢
  have hstep := step_atDispatch hcfg (hrst _ (by omega))
  rw [hfault] at hstep
  rw [runTicks_add_of_next (debounce_stretch hcfg hstart (hrst.mono (Nat.le_add_right _ _))).run]
  refine runTicks_succ_of_fault hstep fun i hi => ?_
  rw [State.inputAt_afterEdges, State.atDispatch_inputAt]
  exact hrst _ (by omega)

/-! ### The iteration function by the outcome of its dispatch -/

theorem State.iterate_of_next (h : (s.debounce a b).dispatchTick = .next t) : s.iterate a b = .next t.toLoopStart := by
  rw [State.iterate, h]

theorem State.iterate_of_fault {f : Fault} (h : (s.debounce a b).dispatchTick = .fault f) : s.iterate a b = .fault f := by
  rw [State.iterate, h]

/-- The iteration function's next state is that of the dispatch at the loop start. -/
theorem State.exists_of_iterate_next (h : s.iterate a b = .next t) :
    ∃ u, (s.debounce a b).dispatchTick = .next u ∧ t = u.toLoopStart := by
  rcases State.dispatchTick_completes_or_overflows (s.debounce_evt_legal a b) with ⟨u, hu⟩ | ⟨k, hk⟩
  · cases h.symm.trans (State.iterate_of_next hu)
    exact ⟨u, hu, rfl⟩
  · cases h.symm.trans (State.iterate_of_fault hk)

/-! ### The obligations of the iteration -/

/-- Settles O38: the dispatch completes or overflows, and the run of the iteration does what it does. -/
theorem iterationFunctionIsRefinedByTicks : Obligations.IterationFunctionIsRefinedByTicks := by
  intro s hiter len
  rcases State.dispatchTick_completes_or_overflows (s.debounce_evt_legal s.firstSamples s.secondSamples) with
    ⟨u, hu⟩ | ⟨k, hk⟩
  · rw [State.iterate_of_next hu]
    refine ⟨fun t ht => ?_, nofun, .inr ⟨_, rfl⟩⟩
    cases ht
    exact (iteration_stretch hiter hu).run
  · rw [State.iterate_of_fault hk]
    refine ⟨nofun, fun f hf => ?_, .inl ⟨k, rfl⟩⟩
    cases hf
    exact runTicks_iteration_of_fault hiter hk

/-- Settles O39: the snapshot shown is the one that the dispatch has written, for the pass does not write it. -/
theorem iterationOutputsShowTheNewSnapshot : Obligations.IterationOutputsShowTheNewSnapshot := by
  intro s t hiter ht
  obtain ⟨u, hu, rfl⟩ := State.exists_of_iterate_next ht
  exact (iteration_stretch hiter hu).trace

end Sys2Proof.Machine
end

section
/-! PROOF. The counter overflow (60_exceptions.md R161, 44_sequencer.md R143): the fault of the `DISPATCH` tick, how it holds
the machine, and the reset that ends it. -/

namespace Sys2Proof.Machine

variable {s : State} {n : Nat}

/-! ### A fault over many edges -/

/-- A fault writes no register, at its own edge or at a later one with `rst = 0`. -/
theorem Block.ticks_of_fault {f : Fault} (hfault : step s = .fault f) (hrst : s.NoResetFor (n + 1)) :
    (Block.running s).ticks (n + 1) = .faulted f (s.afterEdges (n + 1)) := by
  rw [Nat.add_comm] at hrst
  rw [Block.ticks_succ, Block.tick_of_fault hfault, Block.ticks_faulted hrst.afterEdges, State.afterEdges_afterEdges,
    Nat.add_comm]

/-- A reset leads out of a fault at whatever edge it comes, for it is taken before the tick that would fault and after it
alike (44_sequencer.md R143). -/
theorem runTicks_of_fault_of_rst {f : Fault} (hcfg : s.cfg.wellFormed = true)
    (hfault : s.rstPin = false → step s = .fault f) (hwait : s.NoResetFor n) (hrst : (s.inputAt n).rst = true) :
    runTicks (n + 1) s = .next (State.resetWith s.cfg (s.inputs.drop (n + 1)) (s.edges + (n + 1))) := by
  cases n with
  | zero => rw [runTicks_succ_of_next (step_of_rst hcfg hrst), runTicks_zero]
  | succ n =>
    rw [Nat.add_comm] at hwait hrst
    rw [runTicks_succ_of_fault_of_rst (hfault (hwait 0 (by omega))) hwait.afterEdges
      (by rwa [State.inputAt_afterEdges])]
    simp [Nat.add_comm, Nat.add_left_comm]

/-! ### The overflow -/

/-- The `DISPATCH` tick of a key whose count is at its maximum. -/
theorem step_of_full_count {k : Fin 8} (hrun : s.Running) (hphase : s.phase = .dispatch) (hevt : s.evt.toNat = k.val)
    (hmax : s.counts[k] = 2 ^ s.cfg.cntW - 1) : step s = .fault (.counterOverflow k) := by
  obtain ⟨-, -, hfault⟩ := countIncrementsAndRecomputes k (s.afterEdges 1)
  exact (step_of_dispatch hrun hphase ((decode_eq_count_iff s.evt k).2 hevt)).trans (hfault hmax)

/-- Settles O10: the tick is the fault, which then holds the machine up to the reset. -/
theorem overflowFaultsAndOnlyRstLeadsOn : Obligations.OverflowFaultsAndOnlyRstLeadsOn := by
  intro k s hcfg hphase hevt hmax
  have hfault : s.rstPin = false → step s = .fault (.counterOverflow k) :=
    fun hrst => step_of_full_count ⟨hcfg, hrst⟩ hphase hevt hmax
  refine ⟨hfault, fun n hrst => ?_, fun n => runTicks_of_fault_of_rst hcfg hfault⟩
  have hheld := Block.ticks_of_fault (hfault (hrst 0 n.succ_pos)) hrst
  exact ⟨by rw [runTicks_eq, hheld, Block.outcome], hheld⟩

end Sys2Proof.Machine
end

section
/-! PROOF. Reconfirmation (41_debouncer.md R106, 60_exceptions.md R168): what an iteration that meets a new key leaves in the
registers, from the iteration function. -/

namespace Sys2Proof.Machine

variable {s t : State} {a b : Samples}

/-! ### The Debouncer's run for a new key -/

theorem State.debounce_agreeing (hnew : s.reconfirms a = true) (hagree : sweep b = sweep a) :
    s.debounce a b = ((s.setCand (sweep a)).setPrev (sweep a)).setEvt (sweep a) := by
  obtain ⟨hkey, hprev⟩ := (s.reconfirms_iff a).1 hnew
  rw [State.debounce, if_neg hkey, if_neg hprev, if_pos hagree]

theorem State.debounce_disagreeing (hnew : s.reconfirms a = true) (hdiffer : sweep b ≠ sweep a) :
    s.debounce a b = (s.setCand (sweep a)).setEvt noKey := by
  obtain ⟨hkey, hprev⟩ := (s.reconfirms_iff a).1 hnew
  rw [State.debounce, if_neg hkey, if_neg hprev, if_neg hdiffer]

/-! ### The `DISPATCH` tick after it -/

theorem State.dispatchTick_sameDebouncer (h : s.dispatchTick = .next t) : SameDebouncer s t := by
  rcases s.dispatchTick_cases with ⟨i, -, e⟩ | ⟨-, e⟩
  · exact (exec_frame (e.symm.trans h)).1
  · cases e.symm.trans h

/-- Without an event no counter changes (42_counter_dispatch.md R114). -/
theorem State.dispatchTick_sameCounters (hevt : s.evt = noKey) (h : s.dispatchTick = .next t) : SameCounters s t := by
  have hdec : decode s.evt = .instr .none := by rw [hevt]; decide
  cases (State.dispatchTick_of_decode hdec).symm.trans h
  exact ⟨rfl, rfl, rfl, rfl⟩

/-! ### The iteration -/

/-- An iteration that completes has dispatched, and after that it has written nothing but the sequencer. -/
theorem exists_dispatch_of_iteration (hiter : s.WholeIteration)
    (hrun : runTicks (s.iterationTicks s.firstSamples s.secondSamples) s = .next t) :
    ∃ u, (s.debounce s.firstSamples s.secondSamples).dispatchTick = .next u ∧
      t = u.toLoopStart.afterEdges (s.iterationTicks s.firstSamples s.secondSamples) := by
  obtain ⟨hnext, hfault, ⟨k, hk⟩ | ⟨v, hv⟩⟩ := iterationFunctionIsRefinedByTicks s hiter
  · cases hrun.symm.trans (hfault _ hk)
  · obtain ⟨u, hu, rfl⟩ := State.exists_of_iterate_next hv
    cases hrun.symm.trans (hnext _ hv)
    exact ⟨u, hu, rfl⟩

/-- Settles O27: the dispatch after two scans of a new key finds that key if they agree, and no event if they do not. -/
theorem reconfirmationDecidesTheEvent : Obligations.ReconfirmationDecidesTheEvent := by
  intro s t hiter hnew hrun
  obtain ⟨u, hu, rfl⟩ := exists_dispatch_of_iteration hiter hrun
  obtain ⟨hprev, hcand, hevt⟩ := State.dispatchTick_sameDebouncer hu
  by_cases hagree : sweep s.secondSamples = sweep s.firstSamples
  · rw [State.debounce_agreeing hnew hagree] at hprev hcand hevt
    exact ⟨hcand, fun hdiffer => absurd hagree hdiffer, fun _ => ⟨hprev, hevt⟩⟩
  · rw [State.debounce_disagreeing hnew hagree] at hu hprev hcand hevt
    have hcounters := State.dispatchTick_sameCounters rfl hu
    exact ⟨hcand, fun _ => ⟨hcounters, hprev, hevt⟩, fun h => absurd h hagree⟩

end Sys2Proof.Machine
end

section
/-! PROOF. A key held at reset (70_reset_and_hazards.md R182, 44_sequencer.md R150): to the reset state every counting key is
new and every count has room, so the first iteration that finds the key in both scans dispatches one `COUNT` of it. -/

namespace Sys2Proof.Machine

variable {s : State} {a b : Samples} {k : Fin 8}

/-! ### An iteration that counts a new key -/

/-- The `DISPATCH` tick of a counting key whose increment fits (42_counter_dispatch.md R111). -/
theorem State.dispatchTick_of_count (hevt : s.evt.toNat = k.val) (hfits : s.counts[k] + 1 < 2 ^ s.cfg.cntW) :
    s.dispatchTick = .next ((s.countKey k).recompute k).endDispatch := by
  rw [State.dispatchTick_of_decode ((decode_eq_count_iff s.evt k).2 hevt)]
  rcases execCount_cases k s with ⟨hfull, -⟩ | ⟨-, e⟩
  · exact absurd hfits hfull.not_gt
  · exact e

/-- A new counting key that both scans find is accepted and counted, if the increment fits. -/
theorem State.dispatchTick_debounce_of_count (hnew : s.reconfirms a = true) (hagree : sweep b = sweep a)
    (hkey : (sweep a).toNat = k.val) (hfits : s.counts[k] + 1 < 2 ^ s.cfg.cntW) :
    (s.debounce a b).dispatchTick =
      .next (((((s.setCand (sweep a)).setPrev (sweep a)).setEvt (sweep a)).countKey k).recompute k).endDispatch := by
  rw [State.debounce_agreeing hnew hagree]
  exact State.dispatchTick_of_count hkey hfits

theorem State.toLoopStart_afterEdges_atLoopStart (s : State) (n : Nat) :
    (s.toLoopStart.afterEdges n).atLoopStart = true :=
  (State.atLoopStart_iff _).2 ⟨rfl, rfl, rfl⟩

/-! ### The reset state before its first key -/

theorem ne_noKey_of_toNat_eq {w : KeyCode} (hkey : w.toNat = k.val) : w ≠ noKey := by
  rintro rfl
  have hcode : noKey.toNat = 15 := rfl
  omega

/-- To the reset state every counting key is new: it holds no previous one (10_state.md R33). -/
theorem resetWith_reconfirms (c : Cfg) (l : List Input) (e : Nat) (hkey : (sweep a).toNat = k.val) :
    (State.resetWith c l e).reconfirms a = true :=
  have hne := ne_noKey_of_toNat_eq hkey
  (State.reconfirms_iff _ a).2 ⟨hne, hne⟩

/-- Every legal count register has room for the first event. -/
theorem one_lt_two_pow_cntW {c : Cfg} (hcfg : c.wellFormed = true) : 1 < 2 ^ c.cntW := by
  obtain ⟨-, -, -, -, hwidth⟩ := (wellFormed_iff c).1 hcfg
  exact Nat.one_lt_two_pow (by omega)

theorem resetWith_count_fits {c : Cfg} (hcfg : c.wellFormed = true) (l : List Input) (e : Nat) (k : Fin 8) :
    (State.resetWith c l e).counts[k] + 1 < 2 ^ (State.resetWith c l e).cfg.cntW := by
  simpa using one_lt_two_pow_cntW hcfg

theorem resetWith_countKey_counts (c : Cfg) (l : List Input) (e : Nat) (k : Fin 8) :
    ((State.resetWith c l e).countKey k).counts = (Vector.replicate 8 0).set k 1 := by
  simp

/-- The snapshot of the first event: `mode` is `RawCount` after reset, so the one count itself is shown
(42_counter_dispatch.md R116, R118). -/
theorem resetWith_countKey_recompute_snap (c : Cfg) (l : List Input) (e : Nat) (k : Fin 8) :
    (((State.resetWith c l e).countKey k).recompute k).snap = #v[0, 0, 1] := by
  have hshown : (((State.resetWith c l e).countKey k).recompute k).snap = digits 1 := by simp
  rw [hshown]
  decide

/-! ### The first iteration -/

/-- Settles O46: the first iteration's dispatch counts the key, and its refresh pass leads to the loop start. -/
theorem keyHeldAtResetCountsInTheFirstIteration : Obligations.KeyHeldAtResetCountsInTheFirstIteration := by
  intro c l e k s hiter hkey hagree
  have hcfg : c.wellFormed = true := hiter.1
  have hdispatch := State.dispatchTick_debounce_of_count (resetWith_reconfirms c l e hkey) hagree hkey
    (resetWith_count_fits hcfg l e k)
  exact ⟨_, (iteration_stretch hiter hdispatch).run, resetWith_countKey_counts c l e k, rfl,
    resetWith_countKey_recompute_snap c l e k, hkey, State.toLoopStart_afterEdges_atLoopStart _ _⟩

end Sys2Proof.Machine
end
